-- ==== Sys2Proof/Word.lean ====
section
/-! DEFINITION. The word types of the Ulvaz 4864: link and frame bytes, the 16- and 32-bit fields of requests,
the wrapping 32-bit counters (section 6.1 of 00_scope.md), and samples. -/

namespace Sys2Proof

/-- A byte of the control link or of an audio frame. -/
abbrev Byte := BitVec 8

/-- A two-byte field of a request. -/
abbrev Word16 := BitVec 16

/-- A 32-bit counter that wraps: the house sample counter, the house tick counter, W, the read position. -/
abbrev Word32 := BitVec 32

/-- A link address (R163). -/
abbrev Address := BitVec 4

/-- A sample: an integer, in −8,388,608 to 8,388,607 (section 6.2 of 00_scope.md). -/
abbrev Sample := Int

/-- The eight samples of one frame, slot 0 first. -/
abbrev Frame := Vector Sample 8

end Sys2Proof
end

