-- ==== Sys2Proof/Syntax.lean ====
section
/-! DEFINITION. The commands of the part: one constructor of `Instr` per row of spec/opcode_table.json, and the
requests that the control link carries (`Request`, chapter 13), which wait in the part's own request queue. -/

namespace Sys2Proof

/-- A clock source (section 1.1): codes 0 INTERNAL, 1 WORDCLOCK, 2 to 7 PORT0 to PORT5. -/
inductive ClockSource where
  | internal
  | wordclock
  | port (k : Fin 6)
deriving DecidableEq, Repr

/-- One of the 118 faders (chapter 5). -/
inductive FaderId where
  | port (k : Fin 6)
  | lane (l : Fin 48)
  | line (n : Fin 64)
deriving DecidableEq, Repr

/-- A (line, gain) pair as a Route Write or a Cue Load carries it (R98, R110). -/
abbrev Pair := Byte × Word16

/-- A checked request as it waits in the request queue: what its kind, length and payload bytes say (R170, R177,
section 13.4). Its fields are the bytes of the payload; their range checks belong to each request's own rule. -/
inductive Request where
  | identify
  | status
  | go
  | halt
  | restart
  | countersClear
  | clockRate (code : Byte)
  | clockSource (code : Byte)
  | clockQuery
  | portSetup (port enable rate latency window : Byte)
  | portAccept (port tag mask : Byte)
  | portQuery (port : Byte)
  | portRevive (port : Byte)
  | laneBind (lane primary alternate mode : Byte)
  | laneSelect (lane choice : Byte)
  | laneMute (lane flag : Byte)
  | laneQuery (lane : Byte)
  | routeWrite (lane count : Byte) (pairs : List Pair)
  | routeQuery (lane : Byte)
  | cueLoad (slot lane priority dueNow : Byte) (due : Word32) (ramp : Word16) (count : Byte) (pairs : List Pair)
  | cueAbort (slot : Byte)
  | cueAbortAll
  | cueQuery (slot : Byte)
  | cueSurvey
  | lineSetup (line : Byte) (trim delay : Word16)
  | lineMute (line flag : Byte)
  | lineQuery (line : Byte)
  | conditionTake
  | conditionRelease
  | conditionMask (set : Word16)
  | conditionClear (set : Word16)
  | conditionSurvey
  /-- A kind byte that names no kind (R170). -/
  | unknown (kind : Byte)
  /-- A known kind whose length is wrong (R170). -/
  | malformed (kind : Byte)
deriving DecidableEq, Repr

/-- The commands and events of the part, one constructor per row of spec/opcode_table.json, in the table's order.
A request row carries the destination address of the request frame (`dest`, R165) and its payload fields. -/
inductive Instr where
  /-- PIN_RESET (R15). -/
  | pinReset
  /-- HOUSE_SAMPLE (R1). -/
  | houseSample
  /-- WORDCLOCK_EDGE (R3, R4): a rising edge of WCK. -/
  | wordclockEdge
  /-- WATCH_SILENCE (R4): the watch on `src` finds its source silent. -/
  | watchSilence (src : ClockSource)
  /-- QUALIFICATION_COMPLETE (R6). -/
  | qualificationComplete
  /-- FRAME_ARRIVAL (R16): bytes received on port `port`, the last of which completes a frame's body. -/
  | frameArrival (port : Fin 6) (bytes : List Byte)
  /-- FRAME_TIMEOUT (R26). -/
  | frameTimeout (port : Fin 6)
  /-- WINDOW_COMPLETE (R40). -/
  | windowComplete (port : Fin 6)
  /-- SEEDING_ENTRY (R23). -/
  | seedingEntry (port : Fin 6)
  /-- ARRIVAL_AT_SHUT (R77). -/
  | arrivalAtShut (fader : FaderId)
  /-- ARRIVAL_AT_OPEN (R73, R77). -/
  | arrivalAtOpen (fader : FaderId)
  /-- CUE_ACTIVATION (R114). -/
  | cueActivation (lane : Fin 48)
  /-- CUE_COMPLETION (R120). -/
  | cueCompletion (slot : Fin 32)
  /-- CONTROL_FRAME_END (R165): a delimiter received in COLLECTING. -/
  | controlFrameEnd
  /-- FRAMING_ERROR (R166). -/
  | framingError
  /-- ABORT (R164): the byte pair 0xF6 0xF5. -/
  | abort
  /-- REPLY_END (R169). -/
  | replyEnd
  /-- RESTART_EXECUTE (R151, R153). -/
  | restartExecute
  | identify (dest : Address)
  | status (dest : Address)
  | go (dest : Address)
  | halt (dest : Address)
  | restart (dest : Address)
  | countersClear (dest : Address)
  | clockRate (dest : Address) (code : Byte)
  | clockSource (dest : Address) (code : Byte)
  | clockQuery (dest : Address)
  | portSetup (dest : Address) (port enable rate latency window : Byte)
  | portAccept (dest : Address) (port tag mask : Byte)
  | portQuery (dest : Address) (port : Byte)
  | portRevive (dest : Address) (port : Byte)
  | laneBind (dest : Address) (lane primary alternate mode : Byte)
  | laneSelect (dest : Address) (lane choice : Byte)
  | laneMute (dest : Address) (lane flag : Byte)
  | laneQuery (dest : Address) (lane : Byte)
  | routeWrite (dest : Address) (lane count : Byte) (pairs : List Pair)
  | routeQuery (dest : Address) (lane : Byte)
  | cueLoad (dest : Address) (slot lane priority dueNow : Byte) (due : Word32) (ramp : Word16) (count : Byte)
      (pairs : List Pair)
  | cueAbort (dest : Address) (slot : Byte)
  | cueAbortAll (dest : Address)
  | cueQuery (dest : Address) (slot : Byte)
  | cueSurvey (dest : Address)
  | lineSetup (dest : Address) (line : Byte) (trim delay : Word16)
  | lineMute (dest : Address) (line flag : Byte)
  | lineQuery (dest : Address) (line : Byte)
  | conditionTake (dest : Address)
  | conditionRelease (dest : Address)
  | conditionMask (dest : Address) (set : Word16)
  | conditionClear (dest : Address) (set : Word16)
  | conditionSurvey (dest : Address)
  /-- UNKNOWN_KIND (R170): a request whose kind byte names no kind. -/
  | unknownKind (dest : Address) (kind : Byte)
  /-- SYNC_WORD (R16): the bytes 0xB3 0x5C received on port `port`. -/
  | syncWord (port : Fin 6)
  /-- REQUEST_PAIR_BYTE (R164): a byte received on the request pair, with or without its stop bit. -/
  | requestPairByte (byte : Byte) (stopBit : Bool)
deriving DecidableEq, Repr

end Sys2Proof
end

