-- ==== Sys2Proof/Decode.lean ====
section
/-! DEFINITION. The command that a word of spec/opcode_table.json spells. The table gives no row of this part any bits:
its commands are requests of many bytes and events on pins, so no word spells one (log entry 7). The reading of a
request's bytes is `readRequest`, of Machine/Operands.lean. -/

namespace Sys2Proof

/-- The command that a word spells by the table's bits: none, because no row of the table has bits. -/
def decodeTableWord (_nbits _w : Nat) : Option Instr := none

end Sys2Proof
end

