-- ==== Sys2Proof/Config.lean ====
section
/-! DEFINITION. What is fixed for the part, and the free values: choices that the spec leaves to either order,
about which nothing can be proved. -/

namespace Sys2Proof.Config

/-- The family code that Identify reports (section 13.4). -/
def familyCode : Nat := 0x4864

/-- The revision that Identify reports (section 13.4). -/
def revision : Nat := 0x01

/-- FREE VALUE. An arrival at a watched port is at once the port's arrival and the house clock unit's reference
edge, and the spec lets either act first (R18 "neither waits for the other", R48 "end in either order"). Applied to
a counter of State, so that each arrival draws afresh. No body: nothing can be proved about it. -/
opaque edgeFirst : Nat → Bool

/-- FREE VALUE. Where several time-driven events fall due at one instant, the spec lets them come in either order
(R4, R26, R42, R44, R55, R64, R75): which of them comes next. No body: nothing can be proved about it. -/
opaque dueChoice : Nat → Nat

end Sys2Proof.Config
end

