-- ==== Sys2Proof/Machine/State.lean ====
section
/-! DEFINITION. The state of the part: every piece of state that the spec gives each block, as plain data, and the
values after a pin reset (R15, R36, R51, R68, R79, R93, R102, R129, R142, R162, R175). -/

namespace Sys2Proof.Machine

/-! ## The house clock unit (chapter 1) -/

/-- House rate: codes 0 and 1 (section 1.10). -/
inductive HouseRate where
  | k48
  | k96
deriving DecidableEq, Repr

/-- How house sample boundaries are made (section 1.4). -/
inductive Regime where
  | free
  | following
  | holdover
deriving DecidableEq, Repr

/-- A watch on a reference source (R4). `lastEdge` is the time of the source's last edge, none for "no edge yet";
`since` is the instant from which its silence is timed: the last edge, the start of the watch, or the last silence
loss. Both in oscillator periods. -/
structure Watch where
  lastEdge : Option Nat
  since : Nat
deriving DecidableEq, Repr

/-- The record of the house clock unit (section 1.1). `now`, `sampleStart`, `sampleEnd` and `holdBase` hold the
instants that R1, R2, R9 and R10 speak of, in oscillator periods. The house tick counter is `tickCounter`, computed
from these fields as R2 says it always equals. -/
structure Hcu where
  rate : HouseRate
  requested : ClockSource
  regime : Regime
  active : ClockSource
  candidate : Option ClockSource
  /-- Good-period count (R5). -/
  goodCount : Nat
  /-- Run sum, in oscillator periods (R5). -/
  runSum : Nat
  /-- The good periods counted so far, oldest first: they seed `periods` (R7). -/
  qualPeriods : List Nat
  /-- The last 256 good periods of the followed source, oldest first (R7). -/
  periods : List Nat
  /-- Holdover period, in units of 1/256 oscillator period. -/
  holdover : Nat
  /-- House sample counter. -/
  count : Word32
  /-- The present instant, in oscillator periods. -/
  now : Nat
  /-- The instant T0 at which the house sample in progress began (R10). -/
  sampleStart : Nat
  /-- The instant at which the house sample in progress ends; none where only a good edge ends it (R7, R10). -/
  sampleEnd : Option Nat
  /-- In HOLDOVER after its first boundary: that boundary's instant B, and the number n of the next boundary
  B + floor(n × M / 256) (R9). -/
  holdBase : Option (Nat × Nat)
  /-- The watch on the followed source (R3). -/
  activeWatch : Option Watch
  /-- The watch on the candidate (R3). -/
  candidateWatch : Option Watch
deriving DecidableEq, Repr

/-! ## Faders (chapter 5) -/

/-- A fader's state (R70): OPEN, CLOSING, SHUT, OPENING. -/
inductive FaderState where
  | opened
  | closing
  | shut
  | opening
deriving DecidableEq, Repr

/-- A fader: its state and its level (R70). -/
structure Fader where
  state : FaderState
  level : Nat
deriving DecidableEq, Repr

/-! ## Ingress ports, rate trackers and resamplers (chapters 2, 3 and 4) -/

/-- A port's nominal rate: codes 0 to 3 (section 2.1). -/
inductive IngressRate where
  | r44100
  | r48000
  | r88200
  | r96000
deriving DecidableEq, Repr

/-- A port's state (chapter 2): OFF, HUNT, SEEDING, LOCKED, BARRED. -/
inductive PortState where
  | off
  | hunt
  | seeding
  | locked
  | barred
deriving DecidableEq, Repr

/-- A port's receiver (R16): in search, with the byte before the next one in hand, or in collect, with the body
bytes collected so far. -/
inductive Receiver where
  | search (inHand : Option Byte)
  | collect (body : List Byte)
deriving DecidableEq, Repr

/-- The tracker's window state (R37, R38). -/
inductive Window where
  | idle
  | waiting
  | timing (start : Word32) (count : Nat)
deriving DecidableEq, Repr

/-- A rate tracker (R37). Its S0 and half-widths are derived: `nominalStep`. -/
structure Tracker where
  window : Window
  sMeas : Nat
  sFilt : Nat
  sApplied : Nat
deriving DecidableEq, Repr

/-- A resampler (R52). Its mode is `Port.mode`, which follows the port's state. -/
structure Resampler where
  /-- Read position, integer part i. -/
  int : Word32
  /-- Read position, fraction F, in units of 2^-24 frame. -/
  frac : Nat
  slipPending : Bool
  held : Frame
  softSlips : Nat
  hardSlips : Nat
  overshoots : Nat
deriving DecidableEq, Repr

/-- The record of one ingress port with its tracker, resampler and port fader (section 2.1, R31). -/
structure Port where
  enable : Bool
  rateCode : IngressRate
  latency : Nat
  windowExp : Nat
  acceptTag : Byte
  acceptMask : Byte
  state : PortState
  /-- Consecutive-good count. -/
  goodRun : Nat
  /-- Error score. -/
  score : Nat
  degraded : Bool
  /-- Frames written, W. -/
  written : Word32
  lastFrame : Frame
  lastCapture : Option Word32
  /-- Eight history rings of 64 samples, one per slot (R25). -/
  rings : Vector (Vector Sample 64) 8
  badChecks : Nat
  foreigns : Nat
  conceals : Nat
  losses : Nat
  rateFaults : Nat
  receiver : Receiver
  tracker : Tracker
  resampler : Resampler
  fader : Fader
deriving DecidableEq, Repr

/-! ## Lanes, route lists and cues (chapters 6, 7 and 8) -/

/-- A lane's reference to one port-slot. -/
structure Binding where
  port : Fin 6
  slot : Fin 8
deriving DecidableEq, Repr

/-- A lane's return mode. -/
inductive ReturnMode where
  | hold
  | auto
deriving DecidableEq, Repr

/-- One of a lane's two bindings. -/
inductive Which where
  | primary
  | alternate
deriving DecidableEq, Repr

/-- A lane selector with its lane fader (R80). -/
structure Lane where
  primary : Option Binding
  alternate : Option Binding
  mode : ReturnMode
  mute : Bool
  selection : Option Which
  pendingSwitch : Option Which
  fader : Fader
deriving DecidableEq, Repr

/-- The ramp fields of a route entry, present while a cue is ACTIVE on its lane (R94). -/
structure Ramp where
  start : Nat
  target : Nat
  leaving : Bool
deriving DecidableEq, Repr

/-- A route entry (R94). -/
structure RouteEntry where
  line : Fin 64
  gain : Nat
  ramp : Option Ramp
deriving DecidableEq, Repr

/-- What a loaded cue holds (R109). -/
structure Cue where
  lane : Fin 48
  priority : Nat
  due : Word32
  /-- Ramp length N. -/
  ramp : Nat
  /-- Target set: (line, gain), ascending line order. -/
  targets : List (Fin 64 × Nat)
deriving DecidableEq, Repr

/-- How a cue ended (R109). -/
inductive CueOutcome where
  | completed
  | cut
  | aborted
  | noroom
deriving DecidableEq, Repr

/-- A cue slot: its state, with the fields that the state makes present (R109). `activated` is the activation house
sample, `late` the lateness, which an ACTIVE slot keeps for its outcome record (R115). -/
inductive CueSlot where
  | free
  | armed (cue : Cue)
  | active (cue : Cue) (progress : Nat) (activated : Word32) (late : Nat)
  | spent (cue : Cue) (outcome : CueOutcome) (late : Nat) (activated : Option Word32)
deriving DecidableEq, Repr

/-! ## Speaker lines, conditions, link (chapters 9, 11 and 12) -/

/-- A speaker line with its line fader (R130) and its clip counter (R107). -/
structure Line where
  trim : Nat
  delay : Nat
  mute : Bool
  /-- Delay buffer, oldest first. -/
  buffer : List Sample
  fader : Fader
  clips : Nat
deriving DecidableEq, Repr

/-- The operating state (R143). -/
inductive OpState where
  | config
  | starting
  | run
  | stopping
deriving DecidableEq, Repr

/-- One of the twelve conditions in the condition unit (R154, R155): its latch and detail set (bit n for item n),
whether it is enabled, and whether its rank is in service. -/
structure Condition where
  latched : Bool
  detail : BitVec 64
  enabled : Bool
  inService : Bool
deriving DecidableEq, Repr

/-- The link receiver's state (R164). -/
inductive LinkRx where
  | idle
  | collecting
  | escaped
deriving DecidableEq, Repr

/-- A checked request waiting in the request queue (R168). -/
structure QueuedRequest where
  broadcast : Bool
  request : Request
deriving DecidableEq, Repr

/-- A reply being sent (R169): its bytes on the wire, delimiters and stuffing included, and whether it answers an
addressed Restart, which executes when it has left (R151). -/
structure Transmission where
  wire : List Byte
  restart : Bool
deriving DecidableEq, Repr

/-- The control link interface (chapter 12). `tx` is none while the transmitter is idle. -/
structure Link where
  rx : LinkRx
  buffer : List Byte
  queue : List QueuedRequest
  tx : Option Transmission
  /-- The value on the address pins ADR0 to ADR3 (R163). -/
  address : Address
  badChecks : Nat
  framings : Nat
  overflows : Nat
deriving DecidableEq, Repr

/-! ## The whole part -/

/-- The state of the part. The last four fields are the model's own: `cueTaken` marks the lanes whose one
activation of the house sample in progress has been made (R113), `draws` counts the free values drawn, and `pending`
is the queue of commands that wait for the part. -/
structure State where
  hcu : Hcu
  ports : Vector Port 6
  lanes : Vector Lane 48
  /-- Route lists, one per lane (R95). -/
  routes : Vector (List RouteEntry) 48
  cues : Vector CueSlot 32
  lines : Vector Line 64
  /-- The frame each egress port is sending or last sent, EP0 first (R135); empty before the first. -/
  egress : Vector (List Byte) 8
  op : OpState
  conditions : Vector Condition 12
  link : Link
  cueTaken : Vector Bool 48
  draws : Nat
  pending : List Instr
deriving DecidableEq, Repr

/-- Why a command stops with a fault. Nobody raises one: no rule of the spec stops the part, so the type is empty
(safe). -/
inductive Fault where
deriving DecidableEq, Repr

/-- Why a command has no meaning. -/
inductive Refusal where
  /-- Raised by `exec` alone, for a command that the model has not reached; safe. No arm of this model raises it. -/
  | notModelled (mnemonic : String)
deriving DecidableEq, Repr

/-! ## Values after a pin reset -/

/-- Nominal house sample period in oscillator periods (section 1.1). -/
def HouseRate.nominal : HouseRate → Nat
  | .k48 => 512
  | .k96 => 256

/-- A fader after either reset (R79). -/
def Fader.atReset : Fader := ⟨.shut, 0⟩

/-- Eight zero samples. -/
def Frame.zero : Frame := Vector.replicate 8 0

/-- Eight history rings of zeros. -/
def zeroRings : Vector (Vector Sample 64) 8 := Vector.replicate 8 (Vector.replicate 64 0)

/-- A tracker after either reset (R51). -/
def Tracker.atReset : Tracker := ⟨.idle, 0, 0, 0⟩

/-- A resampler after either reset (R68, R69). -/
def Resampler.atReset : Resampler := ⟨0, 0, false, Frame.zero, 0, 0, 0⟩

/-- The house clock unit after a pin reset (R15); the first house sample begins at instant 0. R15 gives the store of
256 good periods (R7) no value: `periods` and `qualPeriods` start empty. DESIGN CHOICE, unsafe, log entry 25. -/
def Hcu.atReset : Hcu where
  rate := .k48
  requested := .internal
  regime := .free
  active := .internal
  candidate := none
  goodCount := 0
  runSum := 0
  qualPeriods := []
  periods := []
  holdover := 131072
  count := 0
  now := 0
  sampleStart := 0
  sampleEnd := some 512
  holdBase := none
  activeWatch := none
  candidateWatch := none

/-- A port after a pin reset (R36, R51, R68, R79). -/
def Port.atReset : Port where
  enable := false
  rateCode := .r48000
  latency := 24
  windowExp := 9
  acceptTag := 0
  acceptMask := 0
  state := .off
  goodRun := 0
  score := 0
  degraded := false
  written := 0
  lastFrame := Frame.zero
  lastCapture := none
  rings := zeroRings
  badChecks := 0
  foreigns := 0
  conceals := 0
  losses := 0
  rateFaults := 0
  receiver := .search none
  tracker := Tracker.atReset
  resampler := Resampler.atReset
  fader := Fader.atReset

/-- A lane after a pin reset (R93). -/
def Lane.atReset : Lane := ⟨none, none, .hold, false, none, none, Fader.atReset⟩

/-- A line after a pin reset (R142). -/
def Line.atReset : Line := ⟨32768, 0, false, [], Fader.atReset, 0⟩

/-- A condition after either reset (R162): not latched, no detail, enabled, not in service. -/
def Condition.atReset : Condition := ⟨false, 0, true, false⟩

/-- The link interface after a pin reset (R175), at address 0: the spec gives the address pins no value.
DESIGN CHOICE, unsafe, log entry 1. -/
def Link.atReset : Link := ⟨.idle, [], [], none, 0, 0, 0, 0⟩

/-- The part right after a pin reset. -/
def State.reset : State where
  hcu := Hcu.atReset
  ports := Vector.replicate 6 Port.atReset
  lanes := Vector.replicate 48 Lane.atReset
  routes := Vector.replicate 48 []
  cues := Vector.replicate 32 .free
  lines := Vector.replicate 64 Line.atReset
  egress := Vector.replicate 8 []
  op := .config
  conditions := Vector.replicate 12 Condition.atReset
  link := Link.atReset
  cueTaken := Vector.replicate 48 false
  draws := 0
  pending := []

end Sys2Proof.Machine
end

