-- ==== Sys2Proof/Machine/Ops.lean ====
section
/-! DEFINITION. Shared operations: arithmetic of section 6.1, byte order and sample coding of chapter 13, the two
checks (R17, R167), the link's byte stuffing (R164, R169), the fader operations (chapter 5), and the updates of one
member of a bank of like things. -/

namespace Sys2Proof.Machine

/-! ## Arithmetic -/

/-- To clamp, or saturate, to a range (section 6.1). -/
def clamp (lo hi x : Int) : Int := if x < lo then lo else if x > hi then hi else x

/-- Least and greatest sample (section 6.2). -/
def sampleMin : Int := -8388608
def sampleMax : Int := 8388607

/-- Saturation to the sample range (R62, R106). -/
def saturate (x : Int) : Int := clamp sampleMin sampleMax x

/-- A counter that rises by `n` and stays at its largest value `cap`. -/
def countUp (cap : Nat) (c : Nat) (n : Nat := 1) : Nat := min (c + n) cap

/-- Largest values of the 16-bit and 32-bit counters (R31, R52, R107, R171). -/
def max16 : Nat := 65535
def max32 : Nat := 4294967295

/-! ## Banks -/

/-- Apply `f` to member `i`. -/
def modifyAt {α : Type} {n : Nat} (v : Vector α n) (i : Fin n) (f : α → α) : Vector α n := v.set i.val (f v[i]) i.isLt

/-- Apply `f` to every member. -/
def mapAll {α β : Type} {n : Nat} (v : Vector α n) (f : α → β) : Vector β n := Vector.ofFn fun i => f v[i]

/-- The members' indices, lowest first. -/
def indices (n : Nat) : List (Fin n) := List.finRange n

/-- The bit field of the set of the items that `p` holds of: bit n for item n (section 6.4). -/
def setBits {n : Nat} (p : Fin n → Bool) : BitVec 64 :=
  (indices n).foldl (fun acc i => if p i then acc ||| (1#64 <<< i.val) else acc) 0

/-- The set of one item. -/
def oneBit (i : Nat) : BitVec 64 := 1#64 <<< i

/-! ## Bytes, most significant first (section 6.5) -/

/-- `v` in `width` bytes. -/
def beBytes : (width : Nat) → (v : Nat) → List Byte
  | 0, _ => []
  | w + 1, v => BitVec.ofNat 8 (v / 256 ^ w) :: beBytes w v

/-- A 24-bit two's complement sample in three bytes (section 6.2). -/
def sampleBytes (x : Sample) : List Byte := beBytes 3 (BitVec.ofInt 24 x).toNat

/-- The sample that three bytes carry. -/
def sampleOf (hi mid lo : Byte) : Sample := (hi ++ mid ++ lo : BitVec 24).toInt

/-- The samples that bytes carry, three bytes each. -/
def samplesOf : List Byte → List Sample
  | hi :: mid :: lo :: rest => sampleOf hi mid lo :: samplesOf rest
  | _ => []

/-! ## Checks -/

/-- One bit of the CRC-8 with generator x^8 + x^2 + x + 1 (R17). -/
def crc8Bit (r : BitVec 8) : BitVec 8 := if r.msb then (r <<< 1) ^^^ 0x07#8 else r <<< 1

/-- `n` bits. -/
def crc8Bits : Nat → BitVec 8 → BitVec 8
  | 0, r => r
  | n + 1, r => crc8Bits n (crc8Bit r)

/-- The CRC-8 over bytes: register 0xFF at the start, each byte most significant bit first, no final inversion (R17). -/
def crc8 (bytes : List Byte) : BitVec 8 := bytes.foldl (fun r b => crc8Bits 8 (r ^^^ b)) 0xFF#8

/-- One bit of the CRC-16 with generator x^16 + x^12 + x^5 + 1 (R167). -/
def crc16Bit (r : BitVec 16) : BitVec 16 := if r.msb then (r <<< 1) ^^^ 0x1021#16 else r <<< 1

/-- `n` bits. -/
def crc16Bits : Nat → BitVec 16 → BitVec 16
  | 0, r => r
  | n + 1, r => crc16Bits n (crc16Bit r)

/-- The CRC-16 over bytes: register 0xFFFF at the start, each byte most significant bit first, no final inversion
(R167). -/
def crc16 (bytes : List Byte) : BitVec 16 :=
  bytes.foldl (fun r b => crc16Bits 8 (r ^^^ (b ++ 0#8 : BitVec 16))) 0xFFFF#16

/-! ## Link frames -/

/-- The frame delimiter, the escape byte and the two escape codes (section 12.2). -/
def delimiter : Byte := 0xF5
def escape : Byte := 0xF6
def escapedDelimiter : Byte := 0xFD
def escapedEscape : Byte := 0xFE

/-- A byte as it is sent inside a frame (R164, R169). -/
def stuffByte (b : Byte) : List Byte :=
  if b = delimiter then [escape, escapedDelimiter] else if b = escape then [escape, escapedEscape] else [b]

/-- A frame's check bytes: high byte first, after the bytes they check (R167). -/
def withCheck (bytes : List Byte) : List Byte := bytes ++ beBytes 2 (crc16 bytes).toNat

/-- A frame on the wire: opening delimiter, stuffed bytes, closing delimiter. -/
def wireOf (frame : List Byte) : List Byte := delimiter :: (frame.flatMap stuffByte ++ [delimiter])

/-! ## Audio frames (section 13.1) -/

/-- The 29 bytes of an audio frame: sync word, tag, eight samples, check byte, gap byte. -/
def audioFrame (tag : Byte) (samples : Frame) : List Byte :=
  let checked := tag :: samples.toList.flatMap sampleBytes
  0xB3#8 :: 0x5C#8 :: (checked ++ [crc8 checked, 0x00#8])

/-! ## Faders -/

/-- A fader is given the target SHUT (R71). -/
def Fader.giveShut (f : Fader) : Fader :=
  match f.state with
  | .opened => ⟨.closing, 64⟩
  | .opening => if f.level = 0 then ⟨.shut, 0⟩ else ⟨.closing, f.level⟩
  | .closing => f
  | .shut => f

/-- A fader is given the target OPEN (R72). -/
def Fader.giveOpen (f : Fader) : Fader :=
  match f.state with
  | .shut => ⟨.opening, 0⟩
  | .closing => if f.level = 64 then ⟨.opened, 64⟩ else ⟨.opening, f.level⟩
  | .opening => f
  | .opened => f

/-- A fader is given a target: OPEN when `toOpen` (R76). -/
def Fader.give (toOpen : Bool) (f : Fader) : Fader := if toOpen then f.giveOpen else f.giveShut

/-- A fader's step at a house sample (R73). -/
def Fader.step (f : Fader) : Fader :=
  match f.state with
  | .closing => if f.level ≤ 1 then ⟨.shut, 0⟩ else ⟨.closing, f.level - 1⟩
  | .opening => if 63 ≤ f.level then ⟨.opened, 64⟩ else ⟨.opening, f.level + 1⟩
  | .opened => f
  | .shut => f

/-- The change from `before` to `after` is an arrival at SHUT (R73). -/
def Fader.arrivesShut (before after : Fader) : Bool := before.state != .shut && after.state == .shut

/-- A sample scaled by a level: trunc(x × level / 64) (R74). -/
def scale (level : Nat) (x : Sample) : Sample := (x * level).tdiv 64

end Sys2Proof.Machine
end

