-- ==== Sys2Proof/Machine/Flags.lean ====
section
/-! DEFINITION. The condition unit (chapter 11): raising a condition, the rank sets, ATTN, and the five condition
requests' effects on latches, enables and ranks in service. -/

namespace Sys2Proof.Machine

/-- The twelve conditions, highest rank first (section 11.1). -/
inductive Cond where
  | clockLost
  | portLost
  | portBarred
  | rate
  | failover
  | slip
  | portWarn
  | clip
  | link
  | cueDone
  | stateReached
  | clockFollow
deriving DecidableEq, Repr

/-- A condition's place in the condition unit: its rank is one more. -/
def Cond.index : Cond → Fin 12
  | .clockLost => 0
  | .portLost => 1
  | .portBarred => 2
  | .rate => 3
  | .failover => 4
  | .slip => 5
  | .portWarn => 6
  | .clip => 7
  | .link => 8
  | .cueDone => 9
  | .stateReached => 10
  | .clockFollow => 11

/-- A raise latches the condition and adds the items to its detail (R154). -/
def Condition.raise (items : BitVec 64) (c : Condition) : Condition :=
  { c with latched := true, detail := c.detail ||| items }

/-- A block raises a condition with its detail items (R154). -/
def State.raise (c : Cond) (items : BitVec 64) (s : State) : State :=
  { s with conditions := modifyAt s.conditions c.index (Condition.raise items) }

/-- Raise a condition where `on` holds. -/
def State.raiseIf (on : Bool) (c : Cond) (items : BitVec 64) (s : State) : State := if on then s.raise c items else s

/-- The marks of Link's detail (section 13.3). -/
def markBadCheck : BitVec 64 := oneBit 0
def markFraming : BitVec 64 := oneBit 1
def markOverflow : BitVec 64 := oneBit 2

/-- The marks of State Reached's detail (section 13.3). -/
def markRun : BitVec 64 := oneBit 0
def markConfig : BitVec 64 := oneBit 1

/-- The highest-ranked condition that `p` holds of. -/
def firstRank (v : Vector Condition 12) (p : Condition → Bool) : Option (Fin 12) := (indices 12).find? fun i => p v[i]

/-- The service level: the highest-ranked member of the in-service set (R155). -/
def serviceLevel (v : Vector Condition 12) : Option (Fin 12) := firstRank v (·.inService)

/-- The condition that a Condition Take hands over: the highest-ranked that is latched and enabled (R157). -/
def takeable (v : Vector Condition 12) : Option (Fin 12) := firstRank v fun c => c.latched && c.enabled

/-- ATTN is driven low (R156): some latched, enabled condition outranks every condition in service. -/
def attnLow (v : Vector Condition 12) : Bool :=
  match takeable v, serviceLevel v with
  | none, _ => false
  | some _, none => true
  | some r, some l => decide (r < l)

/-- A set of ranks as the 16-bit field that the link carries: bit n for rank n, 1 to 12 (section 13.3). -/
def rankSet (v : Vector Condition 12) (p : Condition → Bool) : Nat :=
  ((indices 12).map fun i => if p v[i] then 2 ^ (i.val + 1) else 0).sum

/-- A rank set names a rank outside 1 to 12: it has bit 0 or any of bits 13 to 15 (R177). -/
def badRankSet (set : Word16) : Bool := set &&& 0xE001#16 != 0

/-- The rank set names the condition at place `i`. -/
def names (set : Word16) (i : Fin 12) : Bool := set.getLsbD (i.val + 1)

/-- A condition with its latch cleared and its detail emptied (R157, R160). -/
def Condition.clear (c : Condition) : Condition := { c with latched := false, detail := 0 }

end Sys2Proof.Machine
end

