-- ==== Sys2Proof/WellFormed.lean ====
section
/-! DEFINITION. Well-formed commands: those that a sender can put to the part. `exec` is total and gives every
command, well-formed or not, a next state. -/

namespace Sys2Proof

/-- The kind bytes of section 13.4. -/
def kindTable : List Byte :=
  [0x01, 0x02, 0x03, 0x04, 0x05, 0x06, 0x10, 0x11, 0x12, 0x20, 0x21, 0x22, 0x23, 0x30, 0x31, 0x32, 0x33,
   0x40, 0x41, 0x50, 0x51, 0x52, 0x53, 0x54, 0x60, 0x61, 0x62, 0x70, 0x71, 0x72, 0x73, 0x74]

/-- A payload has at most 240 bytes (section 13.2). -/
def maxPayload : Nat := 240

/-- What a sender can put to the part: a pair list that fits a payload (R98, R110), an unknown kind that is
unknown (R170), a watch on a source that has edges (R3), and an arrival of at least one byte (R16). -/
def Instr.wellFormed : Instr → Bool
  | .routeWrite _ _ _ pairs => 2 + 3 * pairs.length ≤ maxPayload
  | .cueLoad _ _ _ _ _ _ _ _ pairs => 11 + 3 * pairs.length ≤ maxPayload
  | .unknownKind _ kind => !kindTable.contains kind
  | .watchSilence src => src != .internal
  | .frameArrival _ bytes => bytes != []
  | _ => true

end Sys2Proof
end

