-- ==== Sys2Proof/Machine/Operands.lean ====
section
/-! DEFINITION. Request fields and reply fields: the coded values of section 13.3 with their ranges (R177), reply
statuses (R170), and the reading of a request from its kind, length and payload bytes (R170, section 13.4). -/

namespace Sys2Proof.Machine

/-! ## Reply statuses (R170) -/

inductive Status where
  | done
  | adjusted
  | busy
  | locked
  | range
  | nospace
  | wrongstate
  | malformed
  | unknown
deriving DecidableEq, Repr

/-- A status's code (R170). -/
def Status.code : Status → Byte
  | .done => 0x00
  | .adjusted => 0x01
  | .busy => 0x10
  | .locked => 0x11
  | .range => 0x12
  | .nospace => 0x13
  | .wrongstate => 0x14
  | .malformed => 0x1E
  | .unknown => 0x1F

/-- A reply before it is framed: its status and the content that follows (R169). -/
structure Reply where
  status : Status
  content : List Byte
deriving DecidableEq, Repr

/-- DONE with content. -/
def Reply.done (content : List Byte := []) : Reply := ⟨.done, content⟩

/-- A refusal: the status alone (R169). -/
def Reply.refuse (status : Status) : Reply := ⟨status, []⟩

/-- The unstuffed bytes of a reply: address byte with bit 7 set, the request's kind, length, status, content, check
(R169, section 13.2). -/
def Reply.frame (address : Address) (kind : Byte) (r : Reply) : List Byte :=
  withCheck ([0x80#8 ||| address.zeroExtend 8, kind, BitVec.ofNat 8 (r.content.length + 1), r.status.code] ++ r.content)

/-! ## Fields of requests (R177) -/

/-- An index byte that names one of `n` things. -/
def index (n : Nat) (b : Byte) : Option (Fin n) := if h : b.toNat < n then some ⟨b.toNat, h⟩ else none

/-- A flag byte: 0 clear, 1 set; above 1 out of range. -/
def flagOf (b : Byte) : Option Bool := if b = 0 then some false else if b = 1 then some true else none

/-- A binding byte: 0xFF none, else 16 × port + slot; the outer none is out of range. -/
def bindingOf (b : Byte) : Option (Option Binding) :=
  if b = 0xFF then some none
  else
    match index 6 (b >>> 4), index 8 (b &&& 0x0F) with
    | some p, some t => some (some ⟨p, t⟩)
    | _, _ => none

/-- A return mode code. -/
def modeOf (b : Byte) : Option ReturnMode := if b = 0 then some .hold else if b = 1 then some .auto else none

/-- A choice code of Lane Select (R90). -/
def choiceOf (b : Byte) : Option Which := if b = 0 then some .primary else if b = 1 then some .alternate else none

/-- A house rate code. -/
def houseRateOf (b : Byte) : Option HouseRate := if b = 0 then some .k48 else if b = 1 then some .k96 else none

/-- An ingress rate code. -/
def ingressRateOf (b : Byte) : Option IngressRate :=
  if b = 0 then some .r44100 else if b = 1 then some .r48000 else if b = 2 then some .r88200
  else if b = 3 then some .r96000 else none

/-- A clock source code (R13). -/
def sourceOf (b : Byte) : Option ClockSource :=
  if b = 0 then some .internal else if b = 1 then some .wordclock
  else
    match index 6 (b - 2) with
    | some k => some (.port k)
    | none => none

/-- A byte within a range. -/
def within (lo hi : Nat) (b : Byte) : Option Nat := if lo ≤ b.toNat ∧ b.toNat ≤ hi then some b.toNat else none

/-! ## Fields of replies (section 13.3) -/

/-- One byte with the value `n`. -/
def byte (n : Nat) : Byte := BitVec.ofNat 8 n

/-- A code with no value is sent as 0xFF (R177). -/
def absent : Byte := 0xFF

def flagByte (b : Bool) : Byte := if b then 1 else 0

def OpState.code : OpState → Byte
  | .config => 0
  | .starting => 1
  | .run => 2
  | .stopping => 3

def Regime.code : Regime → Byte
  | .free => 0
  | .following => 1
  | .holdover => 2

def sourceCode : ClockSource → Byte
  | .internal => 0
  | .wordclock => 1
  | .port k => byte (k.val + 2)

def candidateCode : Option ClockSource → Byte
  | none => absent
  | some c => sourceCode c

def HouseRate.code : HouseRate → Byte
  | .k48 => 0
  | .k96 => 1

def IngressRate.code : IngressRate → Byte
  | .r44100 => 0
  | .r48000 => 1
  | .r88200 => 2
  | .r96000 => 3

def PortState.code : PortState → Byte
  | .off => 0
  | .hunt => 1
  | .seeding => 2
  | .locked => 3
  | .barred => 4

def FaderState.code : FaderState → Byte
  | .opened => 0
  | .closing => 1
  | .shut => 2
  | .opening => 3

/-- A fader's state and level as replies carry them. -/
def Fader.bytes (f : Fader) : List Byte := [f.state.code, byte f.level]

def bindingCode : Option Binding → Byte
  | none => absent
  | some b => byte (16 * b.port.val + b.slot.val)

def ReturnMode.code : ReturnMode → Byte
  | .hold => 0
  | .auto => 1

def whichCode : Option Which → Byte
  | none => 0
  | some .primary => 1
  | some .alternate => 2

def CueOutcome.code : CueOutcome → Byte
  | .completed => 0
  | .cut => 1
  | .aborted => 2
  | .noroom => 3

/-! ## Reading a request (R170) -/

/-- The (line, gain) pairs that bytes carry, three bytes each; none where the bytes do not divide into pairs. -/
def pairsOf : List Byte → Option (List Pair)
  | [] => some []
  | l :: hi :: lo :: rest =>
    match pairsOf rest with
    | some ps => some ((l, hi ++ lo) :: ps)
    | none => none
  | _ => none

/-- The request that a known kind and a payload spell; none where the payload's length is not one the kind allows
(R170), or, for Route Write and Cue Load, where it cannot agree with any pair count (R98, R110). -/
def spelled (kind : Byte) (payload : List Byte) : Option Request :=
  match kind.toNat, payload with
  | 0x01, [] => some .identify
  | 0x02, [] => some .status
  | 0x03, [] => some .go
  | 0x04, [] => some .halt
  | 0x05, [] => some .restart
  | 0x06, [] => some .countersClear
  | 0x10, [code] => some (.clockRate code)
  | 0x11, [code] => some (.clockSource code)
  | 0x12, [] => some .clockQuery
  | 0x20, [port, enable, rate, latency, window] => some (.portSetup port enable rate latency window)
  | 0x21, [port, tag, mask] => some (.portAccept port tag mask)
  | 0x22, [port] => some (.portQuery port)
  | 0x23, [port] => some (.portRevive port)
  | 0x30, [lane, primary, alternate, mode] => some (.laneBind lane primary alternate mode)
  | 0x31, [lane, choice] => some (.laneSelect lane choice)
  | 0x32, [lane, flag] => some (.laneMute lane flag)
  | 0x33, [lane] => some (.laneQuery lane)
  | 0x40, lane :: count :: rest => (pairsOf rest).map fun ps => .routeWrite lane count ps
  | 0x41, [lane] => some (.routeQuery lane)
  | 0x50, slot :: lane :: priority :: dueNow :: d3 :: d2 :: d1 :: d0 :: n1 :: n0 :: count :: rest =>
    (pairsOf rest).map fun ps => .cueLoad slot lane priority dueNow (d3 ++ d2 ++ d1 ++ d0) (n1 ++ n0) count ps
  | 0x51, [slot] => some (.cueAbort slot)
  | 0x52, [] => some .cueAbortAll
  | 0x53, [slot] => some (.cueQuery slot)
  | 0x54, [] => some .cueSurvey
  | 0x60, [line, t1, t0, d1, d0] => some (.lineSetup line (t1 ++ t0) (d1 ++ d0))
  | 0x61, [line, flag] => some (.lineMute line flag)
  | 0x62, [line] => some (.lineQuery line)
  | 0x70, [] => some .conditionTake
  | 0x71, [] => some .conditionRelease
  | 0x72, [hi, lo] => some (.conditionMask (hi ++ lo))
  | 0x73, [hi, lo] => some (.conditionClear (hi ++ lo))
  | 0x74, [] => some .conditionSurvey
  | _, _ => none

/-- The request of a frame with this kind byte, length byte and payload (R170). UNKNOWN is tested before MALFORMED.
DEDUCED, unsafe, log entry 2. -/
def readRequest (kind length : Byte) (payload : List Byte) : Request :=
  if !kindTable.contains kind then .unknown kind
  else if length.toNat ≠ payload.length then .malformed kind
  else (spelled kind payload).getD (.malformed kind)

/-- The kind byte of a request, which its reply repeats (R169). -/
def kindOf : Request → Byte
  | .identify => 0x01
  | .status => 0x02
  | .go => 0x03
  | .halt => 0x04
  | .restart => 0x05
  | .countersClear => 0x06
  | .clockRate _ => 0x10
  | .clockSource _ => 0x11
  | .clockQuery => 0x12
  | .portSetup _ _ _ _ _ => 0x20
  | .portAccept _ _ _ => 0x21
  | .portQuery _ => 0x22
  | .portRevive _ => 0x23
  | .laneBind _ _ _ _ => 0x30
  | .laneSelect _ _ => 0x31
  | .laneMute _ _ => 0x32
  | .laneQuery _ => 0x33
  | .routeWrite _ _ _ => 0x40
  | .routeQuery _ => 0x41
  | .cueLoad _ _ _ _ _ _ _ _ => 0x50
  | .cueAbort _ => 0x51
  | .cueAbortAll => 0x52
  | .cueQuery _ => 0x53
  | .cueSurvey => 0x54
  | .lineSetup _ _ _ => 0x60
  | .lineMute _ _ => 0x61
  | .lineQuery _ => 0x62
  | .conditionTake => 0x70
  | .conditionRelease => 0x71
  | .conditionMask _ => 0x72
  | .conditionClear _ => 0x73
  | .conditionSurvey => 0x74
  | .unknown kind => kind
  | .malformed kind => kind

end Sys2Proof.Machine
end

