-- ==== Sys2Proof/Machine/Lanes.lean ====
section
/-! DEFINITION. Feed lanes and source failover (chapter 6): ranks, the evaluation of a lane's bindings, the lane's
work at a house sample, and the lane requests' effects. -/

namespace Sys2Proof.Machine

/-! ## Ranks -/

/-- A port's rank (R30): 2 while LOCKED, 1 while LOCKED and degraded, 0 otherwise. -/
def Port.rank (p : Port) : Nat := if p.state = .locked then (if p.degraded then 1 else 2) else 0

/-- The rank of a binding is the rank of its port (R82). -/
def bindingRank (ports : Vector Port 6) (b : Binding) : Nat := ports[b.port].rank

/-! ## The lane record -/

def Which.other : Which → Which
  | .primary => .alternate
  | .alternate => .primary

def Lane.bindingAt (l : Lane) : Which → Option Binding
  | .primary => l.primary
  | .alternate => l.alternate

/-- The binding the lane plays now. -/
def Lane.selected (l : Lane) : Option Binding := l.selection.bind l.bindingAt

/-- One of the lane's bindings names the port. -/
def Lane.boundTo (l : Lane) (k : Fin 6) : Bool := l.primary.any (·.port = k) || l.alternate.any (·.port = k)

/-- The lane fader's target is OPEN (R87). -/
def Lane.wantsOpen (l : Lane) : Bool := !l.mute && l.selection.isSome && l.pendingSwitch.isNone

/-- The lane's action on its fader's arrival at SHUT (R86): the pending switch, if any, completes, and the target
follows R76. -/
def Lane.completeSwitch (l : Lane) : Lane :=
  match l.pendingSwitch with
  | none => l
  | some w =>
    let l' := { l with selection := some w, pendingSwitch := none }
    { l' with fader := l.fader.give l'.wantsOpen }

/-- The lane gives its fader the target (R87). With the fader SHUT, whether before or by this target, a pending
switch completes at once (R85, R86). -/
def Lane.retarget (l : Lane) : Lane :=
  let l' := { l with fader := l.fader.give l.wantsOpen }
  if l'.fader.state = .shut then l'.completeSwitch else l'

/-- The other binding is preferred to the selection `sel` (R84). -/
def prefersOther (ports : Vector Port 6) (mode : ReturnMode) (sel : Which) (primary alternate : Binding) : Bool :=
  match sel with
  | .primary => bindingRank ports primary < bindingRank ports alternate
  | .alternate =>
    bindingRank ports alternate < bindingRank ports primary ||
      (mode == .auto && bindingRank ports primary == bindingRank ports alternate && 1 ≤ bindingRank ports primary)

/-- A lane evaluates its bindings (R83, R84). The second component says that it decided to switch, which raises
Failover (R88). -/
def Lane.evaluate (ports : Vector Port 6) (l : Lane) : Lane × Bool :=
  match l.primary, l.alternate, l.selection with
  | some p, some a, some sel =>
    if prefersOther ports l.mode sel p a then
      match l.pendingSwitch with
      | none => ({ l with pendingSwitch := some sel.other }.retarget, true)
      | some _ => (l, false)
    else
      match l.pendingSwitch with
      | none => (l, false)
      | some _ => ({ l with pendingSwitch := none }.retarget, false)
  | _, _, _ => (l, false)

/-- Raise a condition with a set of items, at an event that gives at least one. -/
def State.raiseSet (c : Cond) (items : BitVec 64) (s : State) : State := s.raiseIf (items != 0) c items

/-- The lanes that `which` names evaluate at one event, each deciding on its own; the deciding lanes' bits are raised
with Failover (R83, R88). -/
def evaluateLanes (which : Fin 48 → Bool) (s : State) : State :=
  let made : Vector (Lane × Bool) 48 :=
    Vector.ofFn fun n => if which n then s.lanes[n].evaluate s.ports else (s.lanes[n], false)
  { s with lanes := mapAll made (·.1) }.raiseSet .failover (setBits fun n : Fin 48 => made[n].2)

/-- The ports change at one event. Every lane bound to a port whose rank changed evaluates at that event, with the
ranks as the event leaves them (R30, R83). -/
def State.withPorts (ports : Vector Port 6) (s : State) : State :=
  let changed (k : Fin 6) : Bool := ports[k].rank != s.ports[k].rank
  let s' := { s with ports := ports }
  if (indices 6).any changed then
    evaluateLanes (fun n => (indices 6).any fun k => changed k && s.lanes[n].boundTo k) s'
  else s'

/-- One port changes at an event. -/
def State.withPort (k : Fin 6) (p : Port) (s : State) : State := s.withPorts (s.ports.set k p)

/-- One lane's record changes. -/
def State.withLane (n : Fin 48) (l : Lane) (s : State) : State := { s with lanes := s.lanes.set n l }

/-! ## The lane at a house sample -/

/-- A lane at its stage of a house sample (R81): it reads its selected port-slot from the scaled port outputs, its
fader steps and scales the value, and an arrival at SHUT completes a pending switch (R86). -/
def Lane.houseSample (outs : Vector Frame 6) (l : Lane) : Lane × Sample :=
  let v : Sample :=
    match l.selected with
    | some b => outs[b.port][b.slot]
    | none => 0
  let f := l.fader.step
  let l' := { l with fader := f }
  (if l.fader.arrivesShut f then l'.completeSwitch else l', scale f.level v)

/-! ## The lane requests -/

/-- Lane Bind (R89). -/
def takeLaneBind (lane primary alternate mode : Byte) (s : State) : State × Reply :=
  if s.op ≠ .config then (s, .refuse .locked)
  else
    match index 48 lane, bindingOf primary, bindingOf alternate, modeOf mode with
    | some n, some p, some a, some m =>
      if p.isNone ∧ a.isSome then (s, .refuse .range)
      else if a.isSome ∧ a = p then (s, .refuse .range)
      else
        let l := { s.lanes[n] with
          primary := p, alternate := a, mode := m, selection := p.map fun _ => .primary, pendingSwitch := none }
        (evaluateLanes (fun i => i = n) (s.withLane n l.retarget), .done)
    | _, _, _, _ => (s, .refuse .range)

/-- The named binding's rank is below the other's, the other being present (R90). -/
def worseChoice (ports : Vector Port 6) (l : Lane) (b : Binding) (w : Which) : Bool :=
  (l.bindingAt w.other).any fun o => bindingRank ports b < bindingRank ports o

/-- Lane Select (R90). -/
def takeLaneSelect (lane choice : Byte) (s : State) : State × Reply :=
  match index 48 lane, choiceOf choice with
  | some n, some w =>
    let l := s.lanes[n]
    match l.bindingAt w with
    | none => (s, .refuse .wrongstate)
    | some b =>
      if worseChoice s.ports l b w then (s, .refuse .wrongstate)
      else if l.selection = some w then (s.withLane n { l with pendingSwitch := none }.retarget, .done)
      else if l.pendingSwitch = some w then (s, .done)
      else (s.withLane n { l with pendingSwitch := some w }.retarget, .done)
  | _, _ => (s, .refuse .range)

/-- Lane Mute (R91). After a Restart a bound lane that is unmuted stands SHUT (R79, R93), and there a Lane Mute off,
though it repeats the flag, gives the target OPEN (R87) and opens the lane. DEDUCED, unsafe, log entry 18. -/
def takeLaneMute (lane flag : Byte) (s : State) : State × Reply :=
  match index 48 lane, flagOf flag with
  | some n, some m => (s.withLane n { s.lanes[n] with mute := m }.retarget, .done)
  | _, _ => (s, .refuse .range)

/-- The rank of a present binding, 0xFF for an absent one (section 13.3). -/
def rankByte (ports : Vector Port 6) : Option Binding → Byte
  | none => absent
  | some b => byte (bindingRank ports b)

/-- The content of a Lane Query's reply (R92, section 13.4). -/
def laneRecord (ports : Vector Port 6) (l : Lane) : List Byte :=
  [bindingCode l.primary, bindingCode l.alternate, l.mode.code, whichCode l.selection, whichCode l.pendingSwitch,
    flagByte l.mute, rankByte ports l.primary, rankByte ports l.alternate] ++ l.fader.bytes

/-- Lane Query (R92). -/
def takeLaneQuery (lane : Byte) (s : State) : State × Reply :=
  match index 48 lane with
  | some n => (s, .done (laneRecord s.ports s.lanes[n]))
  | none => (s, .refuse .range)

/-- A lane after a Restart (R93): bindings, mode and mute kept; the fader is SHUT (R79) until an event of R87's list gives
it a target. DEDUCED, unsafe, log entry 18. -/
def Lane.restart (l : Lane) : Lane :=
  { l with selection := l.primary.map fun _ => .primary, pendingSwitch := none, fader := Fader.atReset }

end Sys2Proof.Machine
end

