-- ==== Sys2Proof/Machine/Ports.lean ====
section
/-! DEFINITION. Ingress ports and rate trackers (chapters 2 and 3): classing a frame, the error score, hunting,
seeding, writing and concealing, the window arithmetic, leaving SEEDING and LOCKED, timeouts, and the port requests. -/

namespace Sys2Proof.Machine

/-! ## Rates (sections 1.1, 2.6 and 3.1) -/

/-- Fh, house samples per second. -/
def HouseRate.hertz : HouseRate → Nat
  | .k48 => 48000
  | .k96 => 96000

/-- Fin, frames per second. -/
def IngressRate.hertz : IngressRate → Nat
  | .r44100 => 44100
  | .r48000 => 48000
  | .r88200 => 88200
  | .r96000 => 96000

/-- The nominal step S0 = floor(Fin × 2^24 / Fh) (section 3.1). -/
def nominalStep (house : HouseRate) (rate : IngressRate) : Nat := rate.hertz * 16777216 / house.hertz

/-- The frame timeout ceil(4 × 256 × Fh / Fin), in house ticks (section 2.6). -/
def timeoutTicks (house : HouseRate) (rate : IngressRate) : Nat :=
  (1024 * house.hertz + rate.hertz - 1) / rate.hertz

/-! ## The house tick counter (R2) -/

/-- The period basis M in units of 1/256 oscillator period (R2). -/
def Hcu.basis (h : Hcu) : Nat :=
  match h.regime with
  | .free => 256 * h.rate.nominal
  | .following => h.holdover
  | .holdover => h.holdover

/-- The phase: floor(65,536 × e / M), held at 255, with the M of the present instant (R2). Where M grows within a house
sample (an early take-up by R6, or a change of regime or house rate by R12 or R13), the formula steps the phase back,
against R2's "never counts the same tick value twice": the formula is followed. DESIGN CHOICE, unsafe, log entry 24. -/
def Hcu.phase (h : Hcu) : Nat := min (65536 * (h.now - h.sampleStart) / h.basis) 255

/-- The house tick counter: (256 × house sample count + phase) mod 2^32 (R2). -/
def Hcu.tickCounter (h : Hcu) : Word32 := 256#32 * h.count + BitVec.ofNat 32 h.phase

/-- What the house tick counter reads after the next house sample event, at phase 0 (R2). -/
def Hcu.nextTicks (h : Hcu) : Word32 := 256#32 * (h.count + 1)

/-- The end set for the house sample in progress has come. -/
def Hcu.sampleOver (h : Hcu) : Bool := h.sampleEnd.any fun e => e ≤ h.now

/-! ## Frames -/

/-- How a frame is classed (R17). -/
inductive FrameClass where
  | badCheck
  | foreign
  | good
deriving DecidableEq, Repr

/-- The class of a 26-byte body: tag, 24 sample bytes, check byte (R17). -/
def Port.classify (p : Port) (body : List Byte) : FrameClass :=
  if body.drop 25 ≠ [crc8 (body.take 25)] then .badCheck
  else if body.headD 0 &&& p.acceptMask ≠ p.acceptTag &&& p.acceptMask then .foreign
  else .good

/-- The eight samples of a body. -/
def bodySamples (body : List Byte) : Frame :=
  let samples := samplesOf ((body.drop 1).take 24)
  Vector.ofFn fun s => samples.getD s.val 0

/-! ## The error score (R19, R20) -/

/-- The score update and the frame's counter (R19, R31). -/
def Port.scoreFrame (c : FrameClass) (p : Port) : Port :=
  match c with
  | .good => { p with score := p.score - 1 }
  | .badCheck => { p with score := min (p.score + 8) 256, badChecks := countUp max32 p.badChecks }
  | .foreign => { p with score := min (p.score + 8) 256, foreigns := countUp max32 p.foreigns }

/-- The degraded flag after a score update (R20). -/
def Port.judgeDegraded (p : Port) : Port :=
  { p with degraded := if 128 ≤ p.score then true else if p.score < 96 then false else p.degraded }

/-- A score update that takes the score from below 96 to 96 or more (R20). -/
def warns (before after : Port) : Bool := before.score < 96 && 96 ≤ after.score

/-! ## Leaving and entering states -/

/-- The port fader is given the target SHUT outside LOCKED; should it be SHUT at once, the held outputs become zero
(R65, R71, R77). -/
def Port.closeFader (p : Port) : Port :=
  let f := p.fader.giveShut
  if p.fader.arrivesShut f then { p with fader := f, resampler := { p.resampler with held := Frame.zero } }
  else { p with fader := f }

/-- A port enters OFF, HUNT or BARRED: rings zero, W and the consecutive-good count 0, last frame zeros, tracker IDLE
with its steps kept (R25, R29, R49). A port that was LOCKED holds its outputs and closes its fader (R29, R64). -/
def Port.enter (st : PortState) (p : Port) : Port :=
  let q := { p with
    state := st, goodRun := 0, written := 0, rings := zeroRings, lastFrame := Frame.zero,
    tracker := { p.tracker with window := .idle },
    resampler := { p.resampler with int := 0, frac := 0, slipPending := false } }
  if p.state = .locked then q.closeFader else q

/-- SEEDING or LOCKED: the states in which frames are written. -/
def PortState.writes : PortState → Bool
  | .seeding => true
  | .locked => true
  | _ => false

/-- HUNT, SEEDING or LOCKED: the states in which an arrival is handled (R18). -/
def PortState.handles : PortState → Bool
  | .hunt => true
  | .seeding => true
  | .locked => true
  | _ => false

/-- The bit of port `k` in a set of ports. -/
def portBit (k : Fin 6) : BitVec 64 := oneBit k.val

/-! ## Seeding entry (R23) -/

/-- The 16th consecutive good frame has arrived: the port enters SEEDING, its window opened at that arrival's capture
(R23, R38). -/
def seedingEntry (k : Fin 6) (s : State) : State :=
  let p := s.ports[k]
  if p.state = .hunt ∧ p.goodRun = 16 then
    s.withPort k { p with
      state := .seeding, goodRun := 0, written := 0, rings := zeroRings, lastFrame := Frame.zero,
      tracker := { p.tracker with window := .timing (p.lastCapture.getD 0) 0 } }
  else s

/-! ## Window completion (R40 to R47) -/

/-- S_meas = floor(2^(w+32) / elapsed), saturated to 32 bits; an elapsed time of 0 saturates (R40). -/
def measuredStep (w elapsed : Nat) : Nat := if elapsed = 0 then max32 else min (2 ^ (w + 32) / elapsed) max32

/-- The fault test: |S_meas − S0| > floor(S0/256) (R41). -/
def rateFault (s0 sMeas : Nat) : Bool := s0 / 256 < ((sMeas : Int) - s0).natAbs

/-- The clamp of the applied step: S0 ± floor(S0/512) (R42, R45). -/
def clampStep (s0 : Nat) (x : Int) : Nat := (clamp (s0 - s0 / 512 : Nat) (s0 + s0 / 512 : Nat) x).toNat

/-- The fill: W − i, read as a signed 32-bit number (R44, R55). -/
def Port.fill (p : Port) : Int := (p.written - p.resampler.int).toInt

/-- The read position becomes W − target latency with fraction 0 (R42, R56, R58). -/
def Port.recentre (p : Port) : Port :=
  { p with resampler := { p.resampler with int := p.written - BitVec.ofNat 32 p.latency, frac := 0 } }

/-- The fill error: fill − target latency, clamped to −16 to +16 (R44). -/
def Port.fillError (p : Port) : Int := clamp (-16) 16 (p.fill - p.latency)

/-- The filtered step after a measurement: one sixteenth of the way, truncated toward zero (R43). -/
def filterStep (sFilt sMeas : Nat) : Nat := ((sFilt : Int) + ((sMeas : Int) - sFilt).tdiv 16).toNat

/-- A completion that passes the fault test in SEEDING: the steps are seeded, the read position set, and the port
enters LOCKED with its fader's target OPEN (R28, R42, R47, R53). -/
def Port.seed (s0 sMeas : Nat) (capture : Word32) (p : Port) : Port :=
  let q := { p.recentre with
    state := .locked, tracker := ⟨.timing capture 0, sMeas, sMeas, clampStep s0 sMeas⟩ }
  if q.resampler.slipPending then q else { q with fader := q.fader.giveOpen }

/-- A completion that passes the fault test in LOCKED: filter, fill error, applied step, next window (R43 to R47). -/
def Port.track (s0 sMeas : Nat) (capture : Word32) (p : Port) : Port :=
  let sFilt := filterStep p.tracker.sFilt sMeas
  { p with tracker := ⟨.timing capture 0, sMeas, sFilt, clampStep s0 (sFilt + 256 * p.fillError)⟩ }

/-- A completion that fails the fault test: S_meas is kept and the port returns to HUNT (R27, R41). -/
def Port.rateFaulted (sMeas : Nat) (p : Port) : Port :=
  { p with tracker := { p.tracker with sMeas := sMeas }, rateFaults := countUp max16 p.rateFaults }.enter .hunt

/-- The window of port `k` is complete: its tracker acts at the completing arrival, whose capture is the port's last
(R39 to R47). -/
def windowComplete (k : Fin 6) (s : State) : State :=
  let p := s.ports[k]
  match p.tracker.window with
  | .timing start count =>
    if p.state.writes ∧ count = 2 ^ p.windowExp then
      let capture := p.lastCapture.getD 0
      let sMeas := measuredStep p.windowExp (capture - start).toNat
      let s0 := nominalStep s.hcu.rate p.rateCode
      if rateFault s0 sMeas then (s.withPort k (p.rateFaulted sMeas)).raise .rate (portBit k)
      else if p.state = .seeding then s.withPort k (p.seed s0 sMeas capture)
      else s.withPort k (p.track s0 sMeas capture)
    else s
  | _ => s

/-! ## An arrival (R18 to R24) -/

/-- A frame is written at ring position W mod 64 of each ring, and W rises by 1 (R24, R25). -/
def Port.write (f : Frame) (p : Port) : Port :=
  { p with
    rings := Vector.ofFn fun t => p.rings[t].set (p.written.toNat % 64) f[t] (Nat.mod_lt _ (by decide))
    written := p.written + 1 }

/-- The frame that an arrival writes: its own samples, or the last frame in concealment (R24). -/
def Port.writeArrival (c : FrameClass) (samples : Frame) (p : Port) : Port :=
  match c with
  | .good => { p with lastFrame := samples }.write samples
  | _ => { p with conceals := countUp max32 p.conceals }.write p.lastFrame

/-- The arrival is handed to the tracker (R39, R48). -/
def Tracker.hand (capture : Word32) (t : Tracker) : Tracker :=
  match t.window with
  | .idle => t
  | .waiting => { t with window := .timing capture 0 }
  | .timing start count => { t with window := .timing start (count + 1) }

/-- The consecutive-good count after an arrival in HUNT (R22). -/
def Port.hunt (c : FrameClass) (p : Port) : Port := { p with goodRun := if c = .good then p.goodRun + 1 else 0 }

/-- What follows the score update, for an arrival that does not bar the port: hunting (R22, R23), or writing and the
tracker's work (R24, R39). -/
def arrivalAfterScore (k : Fin 6) (capture : Word32) (c : FrameClass) (samples : Frame) (s : State) : State :=
  let p := s.ports[k]
  if p.state = .hunt then seedingEntry k (s.withPort k (p.hunt c))
  else
    let q := p.writeArrival c samples
    windowComplete k (s.withPort k { q with tracker := q.tracker.hand capture })

/-- Port `k` handles a frame arrival with body `body`, captured at `capture` (R18 to R24). The score update comes
first, with Port Warn, the degraded flag and, at 256, barring (R19 to R21). Lanes evaluate at each of its changes of
rank. DEDUCED, log entry 23. -/
def portArrival (k : Fin 6) (capture : Word32) (body : List Byte) (s : State) : State :=
  let p := s.ports[k]
  if p.state.handles then
    let c := p.classify body
    let q := ({ p with lastCapture := some capture }.scoreFrame c).judgeDegraded
    let s1 := (s.withPort k q).raiseIf (warns p q) .portWarn (portBit k)
    if q.score = 256 then (s1.withPort k (q.enter .barred)).raise .portBarred (portBit k)
    else arrivalAfterScore k capture c (bodySamples body) s1
  else s

/-! ## Frame timeout (R26) -/

/-- The frame timeout of port `k` has fallen due where the house tick counter reads `ticks` (R26). -/
def timedOut (ticks : Word32) (k : Fin 6) (s : State) : Bool :=
  let p := s.ports[k]
  p.state.writes &&
    match p.lastCapture with
    | some c => timeoutTicks s.hcu.rate p.rateCode ≤ (ticks - c).toNat
    | none => false

/-- The frame timeout of port `k` has fallen due at the present instant (R26). Where the house sample in progress ends
at this instant and its event has not been taken yet, a timeout that falls due at that event is due too: the two may be
taken in either order (R64, R75). Log entry 28. Where the tick counter has stepped back behind a capture of the same
instant, the difference mod 2^32 is near 2^32 and the timeout is due at once. DESIGN CHOICE, unsafe, log entry 24. -/
def timeoutDue (k : Fin 6) (s : State) : Bool :=
  timedOut s.hcu.tickCounter k s || (s.hcu.sampleOver && timedOut s.hcu.nextTicks k s)

/-- A loss: the port returns to HUNT (R26, R29). -/
def loss (k : Fin 6) (s : State) : State :=
  let p := s.ports[k]
  (s.withPort k ({ p with losses := countUp max16 p.losses }.enter .hunt)).raise .portLost (portBit k)

/-- The frame timeout of port `k` occurs if it is due (R26). -/
def frameTimeout (k : Fin 6) (s : State) : State := if timeoutDue k s then loss k s else s

/-! ## Restart notices (R11, R48) -/

/-- A tracker of a SEEDING or LOCKED port discards its window and waits (R48). -/
def Port.notice (p : Port) : Port :=
  if p.state.writes then { p with tracker := { p.tracker with window := .waiting } } else p

/-- The restart notice reaches every tracker whose port is in SEEDING or LOCKED (R11). -/
def restartNotice (s : State) : State := { s with ports := mapAll s.ports Port.notice }

/-! ## The port requests -/

/-- The four settings that a Port Setup stores (R32). -/
def Port.configure (enable : Bool) (rate : IngressRate) (latency window : Nat) (p : Port) : Port :=
  { p with enable := enable, rateCode := rate, latency := latency, windowExp := window }

/-- The port after an accepted Port Setup, by the first case that applies (R32). -/
def Port.setup (enable : Bool) (rate : IngressRate) (latency window : Nat) (p : Port) : Port :=
  let q := p.configure enable rate latency window
  if !enable then { q.enter .off with score := 0, degraded := false }
  else
    match p.state with
    | .barred => q
    | .off => q.enter .hunt
    | _ =>
      if p.rateCode = rate ∧ p.latency = latency ∧ p.windowExp = window then q else q.enter .hunt

/-- The receiver returns to search where the request changed the port's state (R16, R32). A change is a state that
differs from the one before: a port that goes from HUNT to HUNT (row 4 of R32's table) or from OFF to OFF (row 1) goes
on collecting. DEDUCED, unsafe, log entry 26. -/
def Port.resync (before : PortState) (p : Port) : Port :=
  if p.state = before then p else { p with receiver := .search none }

/-- Port Setup (R32). -/
def takePortSetup (port enable rate latency window : Byte) (s : State) : State × Reply :=
  if s.op ≠ .config then (s, .refuse .locked)
  else
    match index 6 port, flagOf enable, ingressRateOf rate, within 8 48 latency, within 6 12 window with
    | some k, some e, some r, some l, some w =>
      let p := s.ports[k]
      (s.withPort k ((p.setup e r l w).resync p.state), .done)
    | _, _, _, _, _ => (s, .refuse .range)

/-- Port Accept (R33). -/
def takePortAccept (port tag mask : Byte) (s : State) : State × Reply :=
  match index 6 port with
  | some k => (s.withPort k { s.ports[k] with acceptTag := tag, acceptMask := mask }, .done)
  | none => (s, .refuse .range)

/-- The resampler's mode (R52): RUNNING while the port is LOCKED. -/
def Port.running (p : Port) : Bool := p.state == .locked

/-- The fill that Port Query reports (R34, R177): 0 outside LOCKED, saturated to signed 16 bits. -/
def Port.reportedFill (p : Port) : Int := if p.state = .locked then clamp (-32768) 32767 p.fill else 0

/-- The content of a Port Query's reply: the six groups of section 13.4 (R34, R67). -/
def portRecord (p : Port) : List Byte :=
  [flagByte p.enable, p.rateCode.code, byte p.latency, byte p.windowExp, p.acceptTag, p.acceptMask] ++
  [p.state.code, byte p.goodRun] ++ beBytes 2 p.score ++ [flagByte p.degraded, byte (p.written.toNat % 64)] ++
  beBytes 2 (BitVec.ofInt 16 p.reportedFill).toNat ++
  beBytes 4 p.tracker.sFilt ++ beBytes 4 p.tracker.sApplied ++ beBytes 4 p.tracker.sMeas ++
  p.fader.bytes ++
  beBytes 4 p.badChecks ++ beBytes 4 p.foreigns ++ beBytes 4 p.conceals ++ beBytes 2 p.losses ++
  beBytes 2 p.rateFaults ++
  [flagByte p.running, flagByte p.resampler.slipPending] ++ beBytes 4 p.resampler.int.toNat ++
  beBytes 3 p.resampler.frac ++ beBytes 2 p.resampler.softSlips ++ beBytes 2 p.resampler.hardSlips ++
  beBytes 4 p.resampler.overshoots

/-- Port Query (R34). -/
def takePortQuery (port : Byte) (s : State) : State × Reply :=
  match index 6 port with
  | some k => (s, .done (portRecord s.ports[k]))
  | none => (s, .refuse .range)

/-- Port Revive (R35). -/
def takePortRevive (port : Byte) (s : State) : State × Reply :=
  match index 6 port with
  | some k =>
    let p := s.ports[k]
    if p.state = .barred then
      (s.withPort k ({ p with score := 0, degraded := false }.enter .hunt), .done)
    else (s, .refuse .wrongstate)
  | none => (s, .refuse .range)

/-- A port after a Clock Rate (R12): an enabled port that is not BARRED returns to HUNT. -/
def Port.rateChanged (p : Port) : Port := if p.enable ∧ p.state ≠ .barred then p.enter .hunt else p

/-- A port's counters at 0 (R174). -/
def Port.clearCounters (p : Port) : Port :=
  { p with
    badChecks := 0, foreigns := 0, conceals := 0, losses := 0, rateFaults := 0,
    resampler := { p.resampler with softSlips := 0, hardSlips := 0, overshoots := 0 } }

/-- A port after a Restart: configuration and acceptance kept (R36, R51, R69, R79). -/
def Port.restart (p : Port) : Port :=
  { Port.atReset with
    enable := p.enable, rateCode := p.rateCode, latency := p.latency, windowExp := p.windowExp,
    acceptTag := p.acceptTag, acceptMask := p.acceptMask,
    state := if p.enable then .hunt else .off }

end Sys2Proof.Machine
end

