-- ==== Sys2Proof/Machine/Resampler.lean ====
section
/-! DEFINITION. The resampler and the port fader at a house sample (chapter 4): the advance, the hard and soft bands,
the interpolation, holding, and what the port does at its fader's arrival at SHUT. -/

namespace Sys2Proof.Machine

/-! ## The advance (R54) -/

/-- The read position i × 2^24 + F advances by the applied step (R54). -/
def Resampler.advance (step : Nat) (r : Resampler) : Resampler :=
  let pos := r.frac + step
  { r with int := r.int + BitVec.ofNat 32 (pos / 16777216), frac := pos % 16777216 }

/-! ## Slips (R56 to R59) -/

/-- A hard slip: the position is recentred and counted, and a pending soft slip is abandoned (R56). -/
def Port.hardSlip (p : Port) : Port :=
  let q := p.recentre
  let r := { q.resampler with hardSlips := countUp max16 q.resampler.hardSlips, slipPending := false }
  if p.resampler.slipPending then { q with resampler := r, fader := q.fader.giveOpen } else { q with resampler := r }

/-- A soft slip completes: the position is recentred and counted, the flag cleared, and the fader's target returns
to OPEN (R58). -/
def Port.softSlip (p : Port) : Port :=
  let q := p.recentre
  { q with
    resampler := { q.resampler with softSlips := countUp max16 q.resampler.softSlips, slipPending := false }
    fader := q.fader.giveOpen }

/-- The port's action on its fader's arrival at SHUT (R77): a pending soft slip completes (R58), or outside LOCKED the
held outputs become zero (R65). The second component says that Slip is raised (R66). -/
def Port.onShut (p : Port) : Port × Bool :=
  if p.state = .locked then
    if p.resampler.slipPending then (p.softSlip, true) else (p, false)
  else ({ p with resampler := { p.resampler with held := Frame.zero } }, false)

/-- The slip-pending flag is set and the fader's target becomes SHUT (R57). -/
def Port.setSlipPending (p : Port) : Port :=
  { p with resampler := { p.resampler with slipPending := true }, fader := p.fader.giveShut }

/-- The bands (R55 to R57), after the advance. The second component says that Slip is raised (R66). -/
def Port.bands (p : Port) : Port × Bool :=
  if p.fill < 3 ∨ 60 < p.fill then (p.hardSlip, true)
  else if (p.fill ≤ 6 ∨ 56 ≤ p.fill) ∧ p.resampler.slipPending = false then
    let q := p.setSlipPending
    if p.fader.arrivesShut q.fader then q.onShut else (q, false)
  else (p, false)

/-! ## Interpolation (R60 to R62) -/

/-- y = x0 + floor((M + 2^48) / 2^49), with M = f × a × 2^32 + f² × b × 2^16 + f³ × c (R61). -/
def interpolate (xm x0 x1 x2 : Int) (f : Nat) : Int :=
  let a := x1 - xm
  let b := 2 * xm - 5 * x0 + 4 * x1 - x2
  let c := -xm + 3 * x0 - 3 * x1 + x2
  let m := f * a * 4294967296 + f * f * b * 65536 + f * f * f * c
  x0 + (m + 281474976710656) / 562949953421312

/-- The sample of ring `t` at frame index `i` (R25). -/
def Port.ringAt (p : Port) (t : Fin 8) (i : Word32) : Sample :=
  p.rings[t][i.toNat % 64]'(Nat.mod_lt _ (by decide))

/-- The value interpolated for slot `t`, before saturation (R60, R61). -/
def Port.interpolated (p : Port) (t : Fin 8) : Int :=
  let i := p.resampler.int
  interpolate (p.ringAt t (i - 1)) (p.ringAt t i) (p.ringAt t (i + 1)) (p.ringAt t (i + 2)) (p.resampler.frac / 256)

/-- The slots whose interpolated value lies outside the sample range. -/
def overshootCount (y : Vector Int 8) : Nat := (indices 8).countP fun t => y[t] != saturate y[t]

/-- The eight slots are interpolated, saturated and counted, and become the held outputs (R62). -/
def Port.interpolateAll (p : Port) : Port :=
  let y : Vector Int 8 := Vector.ofFn p.interpolated
  { p with resampler := { p.resampler with
      held := mapAll y saturate, overshoots := countUp max32 p.resampler.overshoots (overshootCount y) } }

/-! ## The house sample -/

/-- The resampler's work at a house sample: in RUNNING, advance, bands, interpolation; in HOLDING, nothing (R54 to
R62, R65). The second component says that Slip is raised. -/
def Port.resample (p : Port) : Port × Bool :=
  if p.state = .locked then
    let b := { p with resampler := p.resampler.advance p.tracker.sApplied }.bands
    (b.1.interpolateAll, b.2)
  else (p, false)

/-- What a port's stage of a house sample makes: the port, its eight scaled outputs, and whether Slip is raised. -/
structure PortStage where
  port : Port
  outs : Frame
  slip : Bool

/-- A port's stage of a house sample: the resampler, then the port fader's step, which scales the outputs by the new
level and may arrive at SHUT (R63, R73, R74). -/
def Port.houseSample (p : Port) : PortStage :=
  let r := p.resample
  let f := r.1.fader.step
  let outs := mapAll r.1.resampler.held (scale f.level)
  let q := { r.1 with fader := f }
  if r.1.fader.arrivesShut f then ⟨q.onShut.1, outs, r.2 || q.onShut.2⟩ else ⟨q, outs, r.2⟩

end Sys2Proof.Machine
end

