-- ==== Sys2Proof/Machine/Routes.lean ====
section
/-! DEFINITION. Route lists, the route pool and the mix (chapter 7). -/

namespace Sys2Proof.Machine

/-! ## Pairs (R98, R99, R110, R111) -/

/-- The greatest gain, unity (section 6.2). -/
def unity : Nat := 32768

/-- A pair names a line above 63, or two pairs name one line. -/
def badPairs (pairs : List Pair) : Bool :=
  pairs.any (fun p => 64 ≤ p.1.toNat) || !decide (pairs.map (·.1)).Nodup

/-- A gain is above 32,768 and will be corrected. -/
def overUnity (pairs : List Pair) : Bool := pairs.any fun p => unity < p.2.toNat

/-- The pairs in ascending line order, each gain above 32,768 set to 32,768 (R99, R111). -/
def sortedPairs (pairs : List Pair) : List (Fin 64 × Nat) :=
  (indices 64).filterMap fun n => (pairs.find? fun p => p.1.toNat = n.val).map fun p => (n, min p.2.toNat unity)

/-- Entries with these lines and gains and no ramp fields. -/
def plainEntries (pairs : List (Fin 64 × Nat)) : List RouteEntry := pairs.map fun p => ⟨p.1, p.2, none⟩

/-! ## The pool (R96) -/

/-- A lane's list holds at most 16 entries, the pool 512. -/
def laneRoutes : Nat := 16
def routePool : Nat := 512

/-- The pool-used count: the sum of the lengths of the 48 lists (R96). -/
def poolUsed (routes : Vector (List RouteEntry) 48) : Nat := ((indices 48).map fun n => routes[n].length).sum

/-- The lane's list of `present` entries may become one of `next` entries: pool-used − present + next ≤ 512 (R96). -/
def poolFits (used present next : Nat) : Bool := used + next ≤ routePool + present

/-- A lane's list is replaced. -/
def State.withRoutes (n : Fin 48) (list : List RouteEntry) (s : State) : State :=
  { s with routes := s.routes.set n list }

/-- The slot is ACTIVE and names the lane. -/
def CueSlot.activeOn (n : Fin 48) : CueSlot → Bool
  | .active c _ _ _ => c.lane = n
  | _ => false

/-- A cue is ACTIVE on the lane. -/
def cueActiveOn (cues : Vector CueSlot 32) (n : Fin 48) : Bool := (indices 32).any fun i => cues[i].activeOn n

/-! ## The requests -/

/-- Route Write (R98, R99). -/
def takeRouteWrite (lane count : Byte) (pairs : List Pair) (s : State) : State × Reply :=
  if count.toNat ≠ pairs.length then (s, .refuse .malformed)
  else
    match index 48 lane with
    | none => (s, .refuse .range)
    | some n =>
      if laneRoutes < pairs.length ∨ badPairs pairs then (s, .refuse .malformed)
      else if cueActiveOn s.cues n then (s, .refuse .busy)
      else if !poolFits (poolUsed s.routes) s.routes[n].length pairs.length then (s, .refuse .nospace)
      else
        (s.withRoutes n (plainEntries (sortedPairs pairs)), ⟨if overUnity pairs then .adjusted else .done, []⟩)

/-- A route entry in a Route Query's reply (section 13.4). An entry without ramp fields, which a lane with an ACTIVE
cue never holds (R117), is sent with ramp fields of zero there. -/
def entryBytes (ramping : Bool) (e : RouteEntry) : List Byte :=
  byte e.line.val :: beBytes 2 e.gain ++
    if ramping then
      match e.ramp with
      | some r => beBytes 2 r.start ++ beBytes 2 r.target ++ [flagByte r.leaving]
      | none => beBytes 5 0
    else []

/-- Route Query (R101). -/
def takeRouteQuery (lane : Byte) (s : State) : State × Reply :=
  match index 48 lane with
  | none => (s, .refuse .range)
  | some n =>
    let list := s.routes[n]
    let ramping := cueActiveOn s.cues n
    (s, .done ([byte n.val] ++ beBytes 2 (poolUsed s.routes) ++ [flagByte ramping, byte list.length] ++
      list.flatMap (entryBytes ramping)))

/-! ## The mix (R103 to R106) -/

/-- The gain with which a list feeds line `n`; 0 where it does not name the line (R104). -/
def gainFor (list : List RouteEntry) (n : Fin 64) : Nat :=
  match list.find? fun e => e.line = n with
  | some e => e.gain
  | none => 0

/-- acc: the total of v × g over every lane that holds an entry for the line (R104). -/
def mixSum (routes : Vector (List RouteEntry) 48) (laneOuts : Vector Sample 48) (n : Fin 64) : Int :=
  ((indices 48).map fun l => laneOuts[l] * (gainFor routes[l] n : Int)).sum

/-- t = floor((acc × trim + 2^29) / 2^30) (R105). -/
def trimmed (acc : Int) (trim : Nat) : Int := (acc * trim + 536870912) / 1073741824

/-- A line counts a clip (R106). -/
def Line.countClip (clipped : Bool) (l : Line) : Line :=
  if clipped then { l with clips := countUp max16 l.clips } else l

/-- The mix's stage of a house sample: the 64 values handed on, with clips counted and raised (R103 to R108). -/
def mixStage (laneOuts : Vector Sample 48) (s : State) : State × Vector Sample 64 :=
  let t : Vector Int 64 := Vector.ofFn fun n => trimmed (mixSum s.routes laneOuts n) s.lines[n].trim
  let clipped (n : Fin 64) : Bool := t[n] != saturate t[n]
  ({ s with lines := Vector.ofFn fun n => s.lines[n].countClip (clipped n) }.raiseSet .clip (setBits clipped),
    mapAll t saturate)

/-! ## Ramps and resets -/

/-- An entry's gain at step k of N: start + trunc((target − start) × k / N) (R119). -/
def rampGain (start target k n : Nat) : Nat := ((start : Int) + (((target : Int) - start) * k).tdiv n).toNat

/-- A ramping entry takes its gain of step k of N (R119). -/
def RouteEntry.rampTo (k n : Nat) (e : RouteEntry) : RouteEntry :=
  match e.ramp with
  | some r => { e with gain := rampGain r.start r.target k n }
  | none => e

/-- The entry carries a leaving mark. -/
def RouteEntry.leaving (e : RouteEntry) : Bool := e.ramp.any (·.leaving)

/-- A list once its ramp has ended: leaving entries removed, ramp fields dropped (R120). -/
def endRamp (list : List RouteEntry) : List RouteEntry :=
  (list.filter fun e => !e.leaving).map fun e => { e with ramp := none }

/-- An entry's gain taken straight to its target (R102). -/
def RouteEntry.toTarget (e : RouteEntry) : RouteEntry :=
  match e.ramp with
  | some r => { e with gain := r.target }
  | none => e

/-- A list after a Restart: a ramp in progress is completed at once (R102). -/
def restartList (list : List RouteEntry) : List RouteEntry := endRamp (list.map RouteEntry.toTarget)

end Sys2Proof.Machine
end

