-- ==== Sys2Proof/Machine/Cues.lean ====
section
/-! DEFINITION. The cue table (chapter 8): loading, the due test, activation with its union and pool tests, the ramp,
completion, aborts and queries. -/

namespace Sys2Proof.Machine

/-- One slot's record changes. -/
def State.withCue (i : Fin 32) (c : CueSlot) (s : State) : State := { s with cues := s.cues.set i c }

/-- The bit of slot `i` in a set of slots. -/
def slotBit (i : Fin 32) : BitVec 64 := oneBit i.val

/-! ## Due test and lateness (R112, R115) -/

/-- A cue with this due time is due at house sample h: (h − due) mod 2^32 is below 2^31 (R112). -/
def isDue (h due : Word32) : Bool := (h - due).toNat < 2147483648

/-- Lateness: the smaller of (h − due) mod 2^32 and 65,535 (R115). -/
def lateness (h due : Word32) : Nat := min (h - due).toNat 65535

/-! ## Activation (R114 to R118) -/

/-- The slot is ARMED, names the lane and is due (R114). -/
def CueSlot.waits (n : Fin 48) (h : Word32) : CueSlot → Bool
  | .armed c => c.lane = n && isDue h c.due
  | _ => false

/-- The priority of an armed slot. -/
def CueSlot.priority : CueSlot → Nat
  | .armed c => c.priority
  | _ => 0

/-- The slot that wins the lane at house sample h: the lowest priority value, then the lowest index (R114). -/
def winner (cues : Vector CueSlot 32) (n : Fin 48) (h : Word32) : Option (Fin 32) :=
  (indices 32).foldl
    (fun best i =>
      if cues[i].waits n h then
        match best with
        | none => some i
        | some b => if cues[i].priority < cues[b].priority then some i else some b
      else best)
    none

/-- The entry of the union for line `n`, if the present list or the target set names it (R116). -/
def unionEntry (list : List RouteEntry) (targets : List (Fin 64 × Nat)) (n : Fin 64) : Option RouteEntry :=
  match list.find? (fun e => e.line = n), targets.find? (fun t => t.1 = n) with
  | some e, some t => some ⟨n, e.gain, some ⟨e.gain, t.2, false⟩⟩
  | some e, none => some ⟨n, e.gain, some ⟨e.gain, 0, true⟩⟩
  | none, some t => some ⟨n, 0, some ⟨0, t.2, false⟩⟩
  | none, none => none

/-- The union of a lane's list and a cue's target set, in ascending line order (R116). -/
def cueUnion (list : List RouteEntry) (targets : List (Fin 64 × Nat)) : List RouteEntry :=
  (indices 64).filterMap (unionEntry list targets)

/-- The number of entries that the union adds: the lines in the target set only (R116). -/
def unionAdds (list : List RouteEntry) (targets : List (Fin 64 × Nat)) : Nat :=
  targets.countP fun t => !(list.any fun e => e.line = t.1)

/-- The union fits: at most 16 entries, and the pool has room for those added (R116). -/
def unionFits (used : Nat) (list : List RouteEntry) (targets : List (Fin 64 × Nat)) : Bool :=
  (cueUnion list targets).length ≤ laneRoutes && used + unionAdds list targets ≤ routePool

/-- The union as it is installed: with a ramp length of 0 every gain is its target at once (R117). -/
def installed (ramp : Nat) (union : List RouteEntry) : List RouteEntry :=
  if ramp = 0 then union.map RouteEntry.toTarget else union

/-- Slot `i`, holding `c`, has won its lane at house sample h: its union is installed (R117), or it is cut, or it ends
with NOROOM (R118). -/
def runWinner (i : Fin 32) (c : Cue) (h : Word32) (s : State) : State :=
  let list := s.routes[c.lane]
  let late := lateness h c.due
  let used := poolUsed s.routes
  if unionFits used list c.targets then
    (s.withRoutes c.lane (installed c.ramp (cueUnion list c.targets))).withCue i (.active c 0 h late)
  else if poolFits used list.length c.targets.length then
    ((s.withRoutes c.lane (plainEntries c.targets)).withCue i (.spent c .cut late (some h))).raise .cueDone (slotBit i)
  else (s.withCue i (.spent c .noroom late (some h))).raise .cueDone (slotBit i)

/-- The activation part of a house sample for one lane (R113, R114): a lane with no ACTIVE cue, and with no activation
yet at this house sample, activates its winner. The house sample is the one to come, whose number is the house sample
counter (R112). -/
def activateLane (n : Fin 48) (s : State) : State :=
  if cueActiveOn s.cues n || s.cueTaken[n] then s
  else
    match winner s.cues n s.hcu.count with
    | none => s
    | some i =>
      match s.cues[i] with
      | .armed c => runWinner i c s.hcu.count { s with cueTaken := s.cueTaken.set n true }
      | _ => s

/-! ## Ramp steps and completion (R119, R120) -/

/-- One slot's ramp step: an ACTIVE slot raises its progress and forms its lane's gains (R119). A slot activated at
this very house sample takes none. -/
def rampStep (i : Fin 32) (s : State) : State :=
  match s.cues[i] with
  | .active c k h late =>
    if s.cueTaken[c.lane] then s
    else
      (s.withRoutes c.lane (s.routes[c.lane].map (RouteEntry.rampTo (k + 1) c.ramp))).withCue i
        (.active c (k + 1) h late)
  | _ => s

/-- The cue table's stage of a house sample: ramp steps, then activations in ascending lane order (R113). -/
def cueStage (s : State) : State :=
  (indices 48).foldl (fun t n => activateLane n t) ((indices 32).foldl (fun t i => rampStep i t) s)

/-- An ACTIVE slot whose progress has reached N completes (R120). -/
def completeCue (i : Fin 32) (s : State) : State :=
  match s.cues[i] with
  | .active c k h late =>
    if k = c.ramp then
      ((s.withRoutes c.lane (endRamp s.routes[c.lane])).withCue i (.spent c .completed late (some h))).raise .cueDone
        (slotBit i)
    else s
  | _ => s

/-- The completions of a house sample, after the mix (R120). The house sample's activations are then over. -/
def completionStage (s : State) : State :=
  { (indices 32).foldl (fun t i => completeCue i t) s with cueTaken := Vector.replicate 48 false }

/-! ## The requests -/

/-- The slot is ARMED or ACTIVE. -/
def CueSlot.busy : CueSlot → Bool
  | .armed _ => true
  | .active _ _ _ _ => true
  | _ => false

/-- Cue Load (R110, R111). -/
def takeCueLoad (slot lane priority dueNow : Byte) (due : Word32) (ramp : Word16) (count : Byte) (pairs : List Pair)
    (s : State) : State × Reply :=
  if count.toNat ≠ pairs.length then (s, .refuse .malformed)
  else
    match index 32 slot, index 48 lane, flagOf dueNow with
    | some i, some n, some now =>
      if laneRoutes < pairs.length ∨ badPairs pairs then (s, .refuse .malformed)
      else if s.cues[i].busy then (s, .refuse .busy)
      else
        let cue : Cue := {
          lane := n, priority := priority.toNat, due := if now then s.hcu.count else due,
          ramp := ramp.toNat, targets := sortedPairs pairs }
        (s.withCue i (.armed cue), ⟨if overUnity pairs then .adjusted else .done, []⟩)
    | _, _, _ => (s, .refuse .range)

/-- The record of a cue aborted when the counter reads c (R122). -/
def abortedSlot (count : Word32) (c : Cue) : CueSlot :=
  .spent c .aborted (if isDue count c.due then lateness count c.due else 0) none

/-- Cue Abort (R122). -/
def takeCueAbort (slot : Byte) (s : State) : State × Reply :=
  match index 32 slot with
  | none => (s, .refuse .range)
  | some i =>
    match s.cues[i] with
    | .armed c => ((s.withCue i (abortedSlot s.hcu.count c)).raise .cueDone (slotBit i), .done [0])
    | .active _ _ _ _ => (s, .done [1])
    | _ => (s, .refuse .wrongstate)

/-- The slot is ARMED. -/
def CueSlot.isArmed : CueSlot → Bool
  | .armed _ => true
  | _ => false

/-- An ARMED slot becomes SPENT ABORTED; any other is left as it was (R124). -/
def CueSlot.abort (count : Word32) : CueSlot → CueSlot
  | .armed c => abortedSlot count c
  | other => other

/-- Cue Abort All (R124). -/
def takeCueAbortAll (s : State) : State × Reply :=
  let armed (i : Fin 32) : Bool := s.cues[i].isArmed
  ({ s with cues := mapAll s.cues (CueSlot.abort s.hcu.count) }.raiseSet .cueDone (setBits armed),
    .done [byte ((indices 32).countP armed)])

/-- The fields that ARMED, ACTIVE and SPENT slots report (R125, section 13.4). -/
def cueBytes (c : Cue) : List Byte :=
  [byte c.lane.val, byte c.priority] ++ beBytes 4 c.due.toNat ++ beBytes 2 c.ramp ++ [byte c.targets.length] ++
    c.targets.flatMap fun t => byte t.1.val :: beBytes 2 t.2

/-- A slot's state and the fields its state makes present (R125, section 13.4). -/
def slotBytes : CueSlot → List Byte
  | .free => [0]
  | .armed c => 1 :: cueBytes c
  | .active c k h _ => 2 :: cueBytes c ++ beBytes 2 k ++ beBytes 4 h.toNat
  | .spent c o late none => 3 :: cueBytes c ++ [o.code] ++ beBytes 2 late
  | .spent c o late (some h) => 3 :: cueBytes c ++ [o.code] ++ beBytes 2 late ++ beBytes 4 h.toNat

/-- Cue Query (R125). -/
def takeCueQuery (slot : Byte) (s : State) : State × Reply :=
  match index 32 slot with
  | none => (s, .refuse .range)
  | some i => (s, .done (byte i.val :: slotBytes s.cues[i]))

/-- A slot's record in a Cue Survey (R126, section 13.4). -/
def surveyBytes : CueSlot → List Byte
  | .free => [0, absent, absent, 0, 0]
  | .armed c => [1, byte c.lane.val, absent, 0, 0]
  | .active c _ _ _ => [2, byte c.lane.val, absent, 0, 0]
  | .spent c o late _ => [3, byte c.lane.val, o.code] ++ beBytes 2 late

/-- Cue Survey (R126). -/
def takeCueSurvey (s : State) : State × Reply :=
  (s, .done ((indices 32).flatMap fun i => surveyBytes s.cues[i]))

end Sys2Proof.Machine
end

