-- ==== Sys2Proof/Machine/Lines.lean ====
section
/-! DEFINITION. Speaker lines, the delay pool, the egress ports (chapter 9) and run control (chapter 10): the line
stage and the egress frames of a house sample, the operating states with Go and Halt, and the line requests. -/

namespace Sys2Proof.Machine

/-! ## The line fader's target (R134, R143) -/

/-- The operating state opens unmuted lines: STARTING or RUN (R143). -/
def OpState.opens : OpState → Bool
  | .starting => true
  | .run => true
  | _ => false

/-- A line's fader is given its target for an operating state (R134). -/
def Line.retarget (op : OpState) (l : Line) : Line := { l with fader := l.fader.give (op.opens && !l.mute) }

/-- The operating state changes, and every line fader is given its target at that event (R143). -/
def State.withOp (op : OpState) (s : State) : State := { s with op := op, lines := mapAll s.lines (Line.retarget op) }

/-- Go (R144). -/
def takeGo (s : State) : State × Reply :=
  match s.op with
  | .config => (s.withOp .starting, .done)
  | .starting => (s, .done)
  | .run => (s, .done)
  | .stopping => (s, .refuse .busy)

/-- Halt (R145). -/
def takeHalt (s : State) : State × Reply :=
  match s.op with
  | .config => (s, .done)
  | .starting => (s.withOp .stopping, .done)
  | .run => (s.withOp .stopping, .done)
  | .stopping => (s, .done)

/-! ## The line at a house sample (R132, R134) -/

/-- The delay takes `t`, gives out one value and holds d samples again (R132). The buffer holds d samples (R131); a
buffer is empty exactly when d is 0. -/
def delayStep (t : Sample) (buffer : List Sample) : Sample × List Sample :=
  match buffer with
  | [] => (t, [])
  | oldest :: rest => (oldest, rest ++ [t])

/-- A line at its stage of a house sample: the delay, then the line fader's step, which scales what the delay gave
out (R132, R134). -/
def Line.houseSample (t : Sample) (l : Line) : Line × Sample :=
  let d := delayStep t l.buffer
  let f := l.fader.step
  ({ l with buffer := d.2, fader := f }, scale f.level d.1)

/-- The line stage of a house sample: the final samples of the 64 lines. -/
def lineStage (mix : Vector Sample 64) (s : State) : State × Vector Sample 64 :=
  let made : Vector (Line × Sample) 64 := Vector.ofFn fun n => s.lines[n].houseSample mix[n]
  ({ s with lines := mapAll made (·.1) }, mapAll made (·.2))

/-- Run control's test of a house sample, once every line fader has stepped (R146, R147). -/
def runTest (s : State) : State :=
  match s.op with
  | .starting =>
    if (indices 64).all fun n => s.lines[n].mute || s.lines[n].fader.state == .opened then
      { s with op := .run }.raise .stateReached markRun
    else s
  | .stopping =>
    if (indices 64).all fun n => s.lines[n].fader.state == .shut then
      { s with op := .config }.raise .stateReached markConfig
    else s
  | _ => s

/-! ## Egress (R135, R176) -/

/-- The tag of egress port `k`: 16 × link address + k (R135). -/
def egressTag (address : Address) (k : Fin 8) : Byte := byte (16 * address.toNat + k.val)

/-- The frame of egress port `k`: lines 8k to 8k + 7 in slots 0 to 7 (R135). -/
def egressFrame (address : Address) (k : Fin 8) (finals : Vector Sample 64) : List Byte :=
  audioFrame (egressTag address k) (Vector.ofFn fun t : Fin 8 => finals[8 * k.val + t.val])

/-- Every egress port forms its frame of the house sample (R135, R136). -/
def egressStage (finals : Vector Sample 64) (s : State) : State :=
  { s with egress := Vector.ofFn fun k => egressFrame s.link.address k finals }

/-! ## The delay pool and the line requests -/

/-- The delay pool total: the sum of the delays of the 64 lines (R131). -/
def delayTotal (lines : Vector Line 64) : Nat := ((indices 64).map fun n => lines[n].delay).sum

/-- The pool's size and the longest delay (R130). -/
def delayPool : Nat := 65536
def maxDelay : Nat := 8191

/-- A line's new trim, and its new delay with an empty buffer if the delay changes (R133, R139). -/
def Line.setup (trim delay : Nat) (l : Line) : Line :=
  if delay = l.delay then { l with trim := trim }
  else { l with trim := trim, delay := delay, buffer := List.replicate delay 0 }

/-- One line's record changes. -/
def State.withLine (n : Fin 64) (l : Line) (s : State) : State := { s with lines := s.lines.set n l }

/-- Line Setup (R138, R139). -/
def takeLineSetup (line : Byte) (trim delay : Word16) (s : State) : State × Reply :=
  match index 64 line with
  | none => (s, .refuse .range)
  | some n =>
    let l := s.lines[n]
    if delay.toNat ≠ l.delay ∧ s.op ≠ .config then (s, .refuse .locked)
    else if maxDelay < delay.toNat then (s, .refuse .range)
    else if delayPool + l.delay < delayTotal s.lines + delay.toNat then (s, .refuse .nospace)
    else (s.withLine n (l.setup trim.toNat delay.toNat), .done)

/-- A line's mute flag is stored and its fader given its target (R140, R148). -/
def Line.setMute (op : OpState) (mute : Bool) (l : Line) : Line := { l with mute := mute }.retarget op

/-- Line Mute: one line, or all 64 for index 255 (R140). -/
def takeLineMute (line flag : Byte) (s : State) : State × Reply :=
  match flagOf flag with
  | none => (s, .refuse .range)
  | some m =>
    if line = 255 then ({ s with lines := mapAll s.lines (Line.setMute s.op m) }, .done)
    else
      match index 64 line with
      | some n => (s.withLine n (s.lines[n].setMute s.op m), .done)
      | none => (s, .refuse .range)

/-- Line Query (R141). -/
def takeLineQuery (line : Byte) (s : State) : State × Reply :=
  match index 64 line with
  | none => (s, .refuse .range)
  | some n =>
    let l := s.lines[n]
    (s, .done ([byte n.val] ++ beBytes 2 l.trim ++ beBytes 2 l.delay ++ [flagByte l.mute] ++ l.fader.bytes ++
      beBytes 2 l.clips ++ beBytes 4 (delayTotal s.lines)))

/-- A line after a Restart (R142): trim, delay and mute kept. -/
def Line.restart (l : Line) : Line :=
  { l with buffer := List.replicate l.delay 0, fader := Fader.atReset, clips := 0 }

end Sys2Proof.Machine
end

