-- ==== Sys2Proof/Machine/Clock.lean ====
section
/-! DEFINITION. The house sample event (section 2.1 of 00_scope.md, R1) and the house clock unit (chapter 1): regimes,
watches, qualification, following, holdover, the end of a house sample at a change of regime, the clock requests, and
the passing of time on an empty queue. -/

namespace Sys2Proof.Machine

/-! ## The stages of a house sample -/

/-- The ports' stage: every resampler and port fader (chapters 4 and 5). -/
def portsStage (s : State) : State × Vector Frame 6 :=
  let made : Vector PortStage 6 := Vector.ofFn fun k => s.ports[k].houseSample
  ({ s with ports := mapAll made (·.port) }.raiseSet .slip (setBits fun k : Fin 6 => made[k].slip), mapAll made (·.outs))

/-- The lanes' stage: every lane output (R81). -/
def lanesStage (outs : Vector Frame 6) (s : State) : State × Vector Sample 48 :=
  let made : Vector (Lane × Sample) 48 := Vector.ofFn fun n => s.lanes[n].houseSample outs
  ({ s with lanes := mapAll made (·.1) }, mapAll made (·.2))

/-- The work of every per-sample stage for one house sample, in the order of the signal path: ports, lanes, cue table,
mix, completions, lines, run control, egress. -/
def signalPath (s : State) : State :=
  let ports := portsStage s
  let lanes := lanesStage ports.2 ports.1
  let mix := mixStage lanes.2 (cueStage lanes.1)
  let lines := lineStage mix.2 (completionStage mix.1)
  egressStage lines.2 (runTest lines.1)

/-! ## House sample boundaries (R1, R7, R9) -/

/-- The holdover period that is nominal for a rate: 256 times the nominal house sample period. -/
def HouseRate.nominalHoldover (r : HouseRate) : Nat := 256 * r.nominal

/-- The clock's record after the house sample event made at instant `t`: the counter rises, a house sample begins, and
the next boundary is set as the regime gives (R1, R7, R9). -/
def Hcu.boundary (t : Nat) (h : Hcu) : Hcu :=
  let h' := { h with count := h.count + 1, now := t, sampleStart := t }
  match h.regime with
  | .free => { h' with sampleEnd := some (t + h.rate.nominal), holdBase := none }
  | .following => { h' with sampleEnd := none, holdBase := none }
  | .holdover =>
    match h.holdBase with
    | none => { h' with sampleEnd := some (t + h.holdover / 256), holdBase := some (t, 1) }
    | some (b, n) =>
      { h' with sampleEnd := some (b + (n + 1) * h.holdover / 256), holdBase := some (b, n + 1) }

/-- The instant of the house sample event: the end set for the house sample in progress, or the present instant if
that is later or no end is set. -/
def Hcu.boundaryInstant (h : Hcu) : Nat := max h.now (h.sampleEnd.getD h.now)

/-- The work of a house sample event (R1): the signal path's work, then the boundary. -/
def houseSample (s : State) : State :=
  let t := signalPath s
  { t with hcu := t.hcu.boundary t.hcu.boundaryInstant }

/-- The ports whose frame timeout has fallen due once the coming house sample event has moved the tick counter to
phase 0. -/
def boundaryTimeouts (s : State) : List (Fin 6) := (indices 6).filter fun k => timedOut s.hcu.nextTicks k s

/-- Frame timeouts that fall due at the coming house sample event are taken before it, at most `fuel` of them: at each
turn a free value says whether the event or one of the timeouts comes next (R64, R75). Log entry 28. -/
def lossesFirst : (fuel : Nat) → State → State
  | 0, s => s
  | fuel + 1, s =>
    match boundaryTimeouts s with
    | [] => s
    | k :: rest =>
      let drawn := { s with draws := s.draws + 1 }
      match Config.dueChoice s.draws % (rest.length + 2) with
      | 0 => drawn
      | n + 1 => lossesFirst fuel (loss ((k :: rest).getD n k) drawn)

/-- The state that the coming house sample event finds: of the frame timeouts that fall due at the same instant, a free
choice is taken before it, and the others stay due and follow it (R64, R75). Log entry 28. -/
def timeoutsFirst (s : State) : State := lossesFirst (boundaryTimeouts s).length s

/-- The house sample in progress ends (R1), with the frame timeouts of the same instant before or after (R64, R75). -/
def endSample (s : State) : State := houseSample (timeoutsFirst s)

/-- A house sample whose end has come at the present instant ends now (R10 "Otherwise it ends at T"). -/
def settle (s : State) : State := if s.hcu.sampleOver then endSample s else s

/-! ## Watches (R3, R4) -/

/-- A watch that begins at instant `t` with "no edge yet" (R3). -/
def Watch.begin (t : Nat) : Watch := ⟨none, t⟩

/-- A watch after an edge at instant `t` (R4). -/
def Watch.edge (t : Nat) : Watch := ⟨some t, t⟩

/-- A period is good: within the nominal period ± nominal/256 (R4). -/
def goodPeriod (r : HouseRate) (period : Nat) : Bool :=
  r.nominal - r.nominal / 256 ≤ period && period ≤ r.nominal + r.nominal / 256

/-- A silence loss is due: twice the nominal period since the last edge, the start of the watch or the last loss
(R4). -/
def Watch.silent (r : HouseRate) (t : Nat) (w : Watch) : Bool := w.since + 2 * r.nominal ≤ t

/-- The source that a request names as candidate: an external one (R12, R15). -/
def external : ClockSource → Option ClockSource
  | .internal => none
  | src => some src

/-- A source becomes the candidate with count 0 and run sum 0, and a new watch on it begins; none withdraws the
candidate and ends its watch (R8, R12, R13, R15). -/
def Hcu.setCandidate (c : Option ClockSource) (h : Hcu) : Hcu :=
  { h with
    candidate := c, goodCount := 0, runSum := 0, qualPeriods := [], candidateWatch := c.map fun _ => Watch.begin h.now }

/-! ## Changes of regime (R6, R8, R10, R11) -/

/-- The bit of a source in Clock Follow's detail: bit n for source code n (section 13.3). -/
def sourceBit (src : ClockSource) : BitVec 64 := oneBit (sourceCode src).toNat

/-- The regime becomes FREE and the active source INTERNAL; the house sample in progress ends at T0 plus the nominal
period, or now if that is past (R10). -/
def Hcu.free (h : Hcu) : Hcu :=
  { h with
    regime := .free, active := .internal, activeWatch := none, holdBase := none,
    sampleEnd := some (max (h.sampleStart + h.rate.nominal) h.now) }

/-- The regime becomes HOLDOVER on the lost source; the house sample in progress ends at T0 + floor(M / 256), or now if
that is past (R8, R10). -/
def Hcu.hold (h : Hcu) : Hcu :=
  { h with
    regime := .holdover, activeWatch := none, holdBase := none,
    sampleEnd := some (max (h.sampleStart + h.holdover / 256) h.now) }

/-- The regime becomes FOLLOWING on the candidate `c`; the house sample in progress ends now if it has lasted at least
half the nominal period, and else at the next good edge (R6, R10). -/
def Hcu.follow (c : ClockSource) (h : Hcu) : Hcu :=
  { h with
    regime := .following, active := c, holdover := h.runSum, periods := h.qualPeriods,
    candidate := none, goodCount := 0, runSum := 0, qualPeriods := [],
    activeWatch := h.candidateWatch, candidateWatch := none, holdBase := none,
    sampleEnd := if h.rate.nominal / 2 ≤ h.now - h.sampleStart then some h.now else none }

/-- The clock's record changes. -/
def State.withHcu (h : Hcu) (s : State) : State := { s with hcu := h }

/-- The candidate's 256th consecutive good period has closed: the HCU follows it (R6). -/
def qualificationComplete (s : State) : State :=
  match s.hcu.candidate with
  | some c =>
    if s.hcu.goodCount = 256 then
      settle (restartNotice ((s.withHcu (s.hcu.follow c)).raise .clockFollow (sourceBit c)))
    else s
  | none => s

/-- The record after the loss of the followed source: HOLDOVER, and the requested source a candidate if there was none.
Where the loss was declared at an edge of that source, the edge opens the new watch's first period (R8). -/
def Hcu.lose (atEdge : Bool) (h : Hcu) : Hcu :=
  let h' := h.hold
  if h.candidate.isSome then h'
  else
    let h'' := h'.setCandidate (external h.requested)
    if atEdge ∧ h.requested = h.active then
      { h'' with candidateWatch := h''.candidateWatch.map fun _ => Watch.edge h.now }
    else h''

/-- A reference loss of the followed source (R8). -/
def referenceLoss (atEdge : Bool) (s : State) : State :=
  settle (restartNotice ((s.withHcu (s.hcu.lose atEdge)).raise .clockLost 0))

/-! ## Edges (R4, R5, R7) -/

/-- A good period of the followed source ends the house sample in progress, and replaces the oldest of the 256 periods
that make the holdover period (R7). -/
def Hcu.followedPeriod (period : Nat) (h : Hcu) : Hcu :=
  { h with
    activeWatch := some (Watch.edge h.now), periods := h.periods.drop 1 ++ [period],
    holdover := h.holdover + period - h.periods.headD 0, sampleEnd := some h.now }

/-- An edge of the followed source (R4, R7, R8). -/
def followedEdge (w : Watch) (s : State) : State :=
  match w.lastEdge with
  | none => s.withHcu { s.hcu with activeWatch := some (Watch.edge s.hcu.now) }
  | some t =>
    let period := s.hcu.now - t
    if goodPeriod s.hcu.rate period then settle (s.withHcu (s.hcu.followedPeriod period))
    else referenceLoss true s

/-- A good period of the candidate is counted and added (R5). -/
def Hcu.qualify (period : Nat) (h : Hcu) : Hcu :=
  { h with
    goodCount := h.goodCount + 1, runSum := h.runSum + period, qualPeriods := h.qualPeriods ++ [period],
    candidateWatch := some (Watch.edge h.now) }

/-- A reference loss of the candidate: count and run sum 0, the candidate stays (R5). -/
def Hcu.disqualify (w : Watch) (h : Hcu) : Hcu :=
  { h with goodCount := 0, runSum := 0, qualPeriods := [], candidateWatch := some w }

/-- An edge of the candidate (R4, R5, R6). -/
def candidateEdge (w : Watch) (s : State) : State :=
  match w.lastEdge with
  | none => s.withHcu { s.hcu with candidateWatch := some (Watch.edge s.hcu.now) }
  | some t =>
    let period := s.hcu.now - t
    if goodPeriod s.hcu.rate period then qualificationComplete (s.withHcu (s.hcu.qualify period))
    else s.withHcu (s.hcu.disqualify (Watch.edge s.hcu.now))

/-- The watch on the followed source, if `src` is followed (R3). -/
def Hcu.followedWatch (src : ClockSource) (h : Hcu) : Option Watch :=
  if h.regime = .following ∧ h.active = src then h.activeWatch else none

/-- The watch on the candidate, if `src` is the candidate (R3). -/
def Hcu.qualifyingWatch (src : ClockSource) (h : Hcu) : Option Watch :=
  if h.candidate = some src then h.candidateWatch else none

/-- `src` is watched (R3). -/
def Hcu.watches (src : ClockSource) (h : Hcu) : Bool := (h.followedWatch src).isSome || (h.qualifyingWatch src).isSome

/-- An edge of `src` reaches the house clock unit at the present instant (R3, R4). An edge of a source that is not
watched has no effect. -/
def referenceEdge (src : ClockSource) (s : State) : State :=
  match s.hcu.followedWatch src with
  | some w => followedEdge w s
  | none =>
    match s.hcu.qualifyingWatch src with
    | some w => candidateEdge w s
    | none => s

/-- The watch on `src` finds its source silent (R4): a loss of the followed source (R8) or of the candidate (R5). -/
def watchSilence (src : ClockSource) (s : State) : State :=
  match s.hcu.followedWatch src with
  | some w => if w.silent s.hcu.rate s.hcu.now then referenceLoss false s else s
  | none =>
    match s.hcu.qualifyingWatch src with
    | some w =>
      if w.silent s.hcu.rate s.hcu.now then s.withHcu (s.hcu.disqualify (Watch.begin s.hcu.now)) else s
    | none => s

/-! ## The clock requests (R12 to R14) -/

/-- The record after a change of house rate (R12). -/
def Hcu.changeRate (r : HouseRate) (h : Hcu) : Hcu :=
  ({ h with rate := r, holdover := r.nominalHoldover }.free).setCandidate (external h.requested)

/-- Clock Rate (R12). Every port that leaves LOCKED does so at the one event. -/
def takeClockRate (code : Byte) (s : State) : State × Reply :=
  if s.op ≠ .config then (s, .refuse .locked)
  else
    match houseRateOf code with
    | none => (s, .refuse .range)
    | some r =>
      if r = s.hcu.rate then (s, .done)
      else
        let t := s.withPorts (mapAll s.ports Port.rateChanged)
        let u := t.withHcu (s.hcu.changeRate r)
        (settle (if s.hcu.regime = .free then u else restartNotice u), .done)

/-- The code names a port whose nominal rate differs from Fh (R13). -/
def wrongRate (s : State) : ClockSource → Bool
  | .port k => s.ports[k].rateCode.hertz != s.hcu.rate.hertz
  | _ => false

/-- An accepted Clock Source that names an external source, by case (R13). -/
def Hcu.request (src : ClockSource) (h : Hcu) : Hcu :=
  if h.active = src ∧ h.regime = .following then
    if h.candidate.isSome then { h.setCandidate none with requested := src } else h
  else { h.setCandidate (some src) with requested := src }

/-- The record after a Clock Source INTERNAL (R13). In FREE the house sample in progress is not touched. -/
def Hcu.requestInternal (h : Hcu) : Hcu :=
  let h' := { h.setCandidate none with requested := .internal }
  if h.regime = .free then { h' with active := .internal, activeWatch := none } else h'.free

/-- Clock Source (R13). -/
def takeClockSource (code : Byte) (s : State) : State × Reply :=
  match sourceOf code with
  | none => (s, .refuse .range)
  | some src =>
    if wrongRate s src then (s, .refuse .range)
    else if src = .internal then
      let u := s.withHcu s.hcu.requestInternal
      (if s.hcu.regime = .free then u else settle (restartNotice u), .done)
    else (s.withHcu (s.hcu.request src), .done)

/-- Clock Query (R14). -/
def takeClockQuery (s : State) : State × Reply :=
  let h := s.hcu
  (s, .done ([h.rate.code, sourceCode h.requested, h.regime.code, sourceCode h.active, candidateCode h.candidate] ++
    beBytes 2 h.goodCount ++ beBytes 4 h.holdover ++ beBytes 4 h.count.toNat ++ beBytes 4 h.tickCounter.toNat))

/-- The record after a Restart (R15): house rate and requested source kept, counters 0, a new house sample. -/
def Hcu.restart (h : Hcu) : Hcu :=
  { Hcu.atReset with
    rate := h.rate, requested := h.requested, holdover := h.rate.nominalHoldover, now := h.now, sampleStart := h.now,
    sampleEnd := some (h.now + h.rate.nominal) }.setCandidate (external h.requested)

/-! ## Arrivals and the passing of time -/

/-- Port `k` handles an arrival with body `body`, and the same arrival is a reference edge of its source (R3, R16,
R18). Where the source is watched, which of the two acts first is free (R18, R48); the capture reads the tick counter
after a house sample event that the edge makes (R16), and else as the order taken leaves it. DESIGN CHOICE, log
entry 3. -/
def arrive (k : Fin 6) (body : List Byte) (s : State) : State :=
  let src := ClockSource.port k
  if !s.ports[k].state.handles then s
  else if !s.hcu.watches src then portArrival k s.hcu.tickCounter body s
  else
    let drawn := { s with draws := s.draws + 1 }
    let edge := referenceEdge src drawn
    if Config.edgeFirst s.draws then portArrival k edge.hcu.tickCounter body edge
    else
      let capture := if edge.hcu.count = s.hcu.count then s.hcu.tickCounter else edge.hcu.tickCounter
      referenceEdge src (portArrival k capture body drawn)

/-- A port's receiver changes. -/
def State.withReceiver (k : Fin 6) (r : Receiver) (s : State) : State :=
  { s with ports := s.ports.set k { s.ports[k] with receiver := r } }

/-- A byte received on ingress port `k` (R16). -/
def ingressByte (k : Fin 6) (b : Byte) (s : State) : State :=
  match s.ports[k].receiver with
  | .search inHand =>
    if inHand = some 0xB3#8 ∧ b = 0x5C#8 then s.withReceiver k (.collect [])
    else s.withReceiver k (.search (some b))
  | .collect body =>
    if 25 ≤ body.length then arrive k (body ++ [b]) (s.withReceiver k (.search none))
    else s.withReceiver k (.collect (body ++ [b]))

/-- The time-driven events that are due at the present instant (R1, R4, R9, R26). -/
def dueEvents (s : State) : List Instr :=
  let h := s.hcu
  let silences : List Instr :=
    (match h.activeWatch with
      | some w => if h.regime = .following ∧ w.silent h.rate h.now then [Instr.watchSilence h.active] else []
      | none => []) ++
    (match h.candidate, h.candidateWatch with
      | some c, some w => if w.silent h.rate h.now then [Instr.watchSilence c] else []
      | _, _ => [])
  let ends : List Instr := if h.sampleOver then [Instr.houseSample] else []
  let timeouts : List Instr := ((indices 6).filter fun k => timeoutDue k s).map Instr.frameTimeout
  ends ++ silences ++ timeouts

/-- What the part does by itself on an empty queue: a time-driven event that is due at the present instant is put in
the queue, and when none is due one oscillator period passes. Among several that are due the choice is free (R4, R26,
R42). DESIGN CHOICE, log entries 4 and 5. -/
def passTime (s : State) : State :=
  match dueEvents s with
  | [] => s.withHcu { s.hcu with now := s.hcu.now + 1 }
  | [c] => { s with pending := s.pending ++ [c] }
  | c :: rest =>
    { s with
      pending := s.pending ++ [(c :: rest).getD (Config.dueChoice s.draws % (rest.length + 1)) c]
      draws := s.draws + 1 }

end Sys2Proof.Machine
end

