-- ==== Sys2Proof/Machine/Link.lean ====
section
/-! DEFINITION. The control link (chapter 12), the condition requests (chapter 11) and Restart (section 10.7): the
receiver, judging a frame, the request queue, taking requests and sending replies. -/

namespace Sys2Proof.Machine

/-! ## The condition requests (R157 to R161) -/

/-- The content of a Condition Take's reply: the rank and the 8-byte detail (R157, section 13.3). -/
def takenBytes (rank : Nat) (detail : BitVec 64) : List Byte := byte rank :: beBytes 8 detail.toNat

/-- Condition Take (R157). -/
def takeConditionTake (s : State) : State × Reply :=
  match takeable s.conditions with
  | none => (s, .done (takenBytes 0 0))
  | some i =>
    ({ s with conditions := modifyAt s.conditions i fun c => { c.clear with inService := true } },
      .done (takenBytes (i.val + 1) s.conditions[i].detail))

/-- Condition Release (R158). -/
def takeConditionRelease (s : State) : State × Reply :=
  match serviceLevel s.conditions with
  | none => (s, .refuse .wrongstate)
  | some i =>
    ({ s with conditions := modifyAt s.conditions i fun c => { c with inService := false } }, .done [byte (i.val + 1)])

/-- Condition Mask (R159). -/
def takeConditionMask (set : Word16) (s : State) : State × Reply :=
  if badRankSet set then (s, .refuse .range)
  else
    ({ s with conditions := Vector.ofFn fun i => { s.conditions[i] with enabled := names set i } }, .done)

/-- Condition Clear (R160). -/
def takeConditionClear (set : Word16) (s : State) : State × Reply :=
  if badRankSet set then (s, .refuse .range)
  else
    ({ s with conditions := Vector.ofFn fun i => if names set i then s.conditions[i].clear else s.conditions[i] }, .done)

/-- Condition Survey (R161). -/
def takeConditionSurvey (s : State) : State × Reply :=
  (s, .done (beBytes 2 (rankSet s.conditions (·.latched)) ++ beBytes 2 (rankSet s.conditions (·.enabled)) ++
    beBytes 2 (rankSet s.conditions (·.inService)) ++
    (indices 12).flatMap fun i => beBytes 8 s.conditions[i].detail.toNat))

/-! ## The requests of the link interface (R172 to R174) -/

/-- Identify (R172). -/
def takeIdentify (s : State) : State × Reply :=
  (s, .done (beBytes 2 Config.familyCode ++ [byte Config.revision, s.link.address.zeroExtend 8] ++
    [byte 6, byte 48, byte 64, byte 32] ++ beBytes 2 routePool))

/-- Status (R173). The queue fill is the number of requests waiting behind this one, which has left the queue. -/
def takeStatus (s : State) : State × Reply :=
  let h := s.hcu
  (s, .done ([s.op.code, h.regime.code, sourceCode h.active, sourceCode h.requested, candidateCode h.candidate] ++
    beBytes 2 h.goodCount ++ beBytes 4 h.count.toNat ++
    ((indices 6).map fun k => s.ports[k].state.code) ++
    beBytes 2 (rankSet s.conditions (·.latched)) ++ beBytes 2 (rankSet s.conditions (·.inService)) ++
    [byte s.link.queue.length] ++
    beBytes 2 s.link.badChecks ++ beBytes 2 s.link.framings ++ beBytes 2 s.link.overflows))

/-- Counters Clear (R174). -/
def takeCountersClear (s : State) : State × Reply :=
  ({ s with
      ports := mapAll s.ports Port.clearCounters
      lines := mapAll s.lines fun l => { l with clips := 0 }
      link := { s.link with badChecks := 0, framings := 0, overflows := 0 } }, .done)

/-! ## Resets (R15, R153) -/

/-- The link interface after a Restart's execution: receiver IDLE, queue empty, transmitter idle, counters 0; the
address is read from the pins (R175). -/
def Link.restart (l : Link) : Link := { Link.atReset with address := l.address }

/-- A Restart executes (R153): each block at its Restart values. -/
def executeRestart (s : State) : State :=
  { s with
    hcu := s.hcu.restart
    ports := mapAll s.ports Port.restart
    lanes := mapAll s.lanes Lane.restart
    routes := mapAll s.routes restartList
    cues := Vector.replicate 32 .free
    lines := mapAll s.lines Line.restart
    op := .config
    conditions := Vector.replicate 12 Condition.atReset
    link := s.link.restart
    cueTaken := Vector.replicate 48 false }

/-- A pin reset (R15, R153): every block at its pin-reset values. The address pins keep their value, and the model's
own queue and draw count are no part of the reset. -/
def pinReset (s : State) : State :=
  { State.reset with
    link := { Link.atReset with address := s.link.address }, draws := s.draws, pending := s.pending }

/-! ## Taking requests (R169, R170) -/

/-- A request's checks and effect, and its reply. An addressed Restart is answered here and executes when its reply
has left (R151). -/
def take : Request → State → State × Reply
  | .identify, s => takeIdentify s
  | .status, s => takeStatus s
  | .go, s => takeGo s
  | .halt, s => takeHalt s
  | .restart, s => (s, .done)
  | .countersClear, s => takeCountersClear s
  | .clockRate code, s => takeClockRate code s
  | .clockSource code, s => takeClockSource code s
  | .clockQuery, s => takeClockQuery s
  | .portSetup port enable rate latency window, s => takePortSetup port enable rate latency window s
  | .portAccept port tag mask, s => takePortAccept port tag mask s
  | .portQuery port, s => takePortQuery port s
  | .portRevive port, s => takePortRevive port s
  | .laneBind lane primary alternate mode, s => takeLaneBind lane primary alternate mode s
  | .laneSelect lane choice, s => takeLaneSelect lane choice s
  | .laneMute lane flag, s => takeLaneMute lane flag s
  | .laneQuery lane, s => takeLaneQuery lane s
  | .routeWrite lane count pairs, s => takeRouteWrite lane count pairs s
  | .routeQuery lane, s => takeRouteQuery lane s
  | .cueLoad slot lane priority dueNow due ramp count pairs, s =>
    takeCueLoad slot lane priority dueNow due ramp count pairs s
  | .cueAbort slot, s => takeCueAbort slot s
  | .cueAbortAll, s => takeCueAbortAll s
  | .cueQuery slot, s => takeCueQuery slot s
  | .cueSurvey, s => takeCueSurvey s
  | .lineSetup line trim delay, s => takeLineSetup line trim delay s
  | .lineMute line flag, s => takeLineMute line flag s
  | .lineQuery line, s => takeLineQuery line s
  | .conditionTake, s => takeConditionTake s
  | .conditionRelease, s => takeConditionRelease s
  | .conditionMask set, s => takeConditionMask set s
  | .conditionClear set, s => takeConditionClear set s
  | .conditionSurvey, s => takeConditionSurvey s
  | .unknown _, s => (s, .refuse .unknown)
  | .malformed _, s => (s, .refuse .malformed)

/-- The request is a Restart that passed the generic checks. -/
def isRestart : Request → Bool
  | .restart => true
  | _ => false

/-- The link's state changes. -/
def State.withLink (l : Link) (s : State) : State := { s with link := l }

/-- The transmitter begins to send a reply (R169). -/
def State.send (t : Transmission) (s : State) : State := s.withLink { s.link with tx := some t }

/-- A reply as it is sent (R169). -/
def transmission (address : Address) (q : Request) (r : Reply) : Transmission :=
  ⟨wireOf (r.frame address (kindOf q)), isRestart q⟩

/-- The time a reply occupies the reply pair, in microseconds: 5 for each byte on the wire (R163, R169). -/
def Transmission.duration (t : Transmission) : Nat := 5 * t.wire.length

/-- A request that has left the queue is taken (R169). A broadcast gets no reply, and a broadcast Restart executes at
once (R152). -/
def serve (q : QueuedRequest) (s : State) : State :=
  let r := take q.request s
  if q.broadcast then (if isRestart q.request then executeRestart r.1 else r.1)
  else r.1.send (transmission r.1.link.address q.request r.2)

/-- While the transmitter is idle and a request waits, the head request is taken (R169), at most `fuel` times. -/
def takeWaiting : (fuel : Nat) → State → State
  | 0, s => s
  | fuel + 1, s =>
    match s.link.tx, s.link.queue with
    | none, q :: rest => takeWaiting fuel (serve q (s.withLink { s.link with queue := rest }))
    | _, _ => s

/-- Every request that can be taken at this instant is taken. -/
def State.takeReady (s : State) : State := takeWaiting s.link.queue.length s

/-- The request queue's capacity (R168). -/
def queueCapacity : Nat := 4

/-- The link counts a fault and raises Link with its mark (R171). -/
def State.linkFault (l : Link) (mark : BitVec 64) (s : State) : State := (s.withLink l).raise .link mark

/-- A checked request is offered to the queue (R168), and taken at once if it may be (R169). -/
def offer (q : QueuedRequest) (s : State) : State :=
  if s.link.queue.length < queueCapacity then (s.withLink { s.link with queue := s.link.queue ++ [q] }).takeReady
  else s.linkFault { s.link with overflows := countUp max16 s.link.overflows } markOverflow

/-- The broadcast address (R163). -/
def broadcastAddress : Address := 15

/-- A request frame for `dest` has passed its check: it is offered if it is for this part or for all, and else ignored
(R165). A part at address 15 takes broadcasts alone (R163). -/
def request (dest : Address) (q : Request) (s : State) : State :=
  if dest = broadcastAddress then offer ⟨true, q⟩ s
  else if dest = s.link.address then offer ⟨false, q⟩ s
  else s

/-! ## The receiver (R164 to R166) -/

/-- A frame of unstuffed bytes ends and is judged (R165). -/
def judge (bytes : List Byte) (s : State) : State :=
  if bytes.length < 5 then s
  else
    let checked := bytes.take (bytes.length - 2)
    if bytes.drop (bytes.length - 2) ≠ beBytes 2 (crc16 checked).toNat then
      s.linkFault { s.link with badChecks := countUp max16 s.link.badChecks } markBadCheck
    else
      match checked with
      | address :: kind :: length :: payload =>
        if address.msb then s else request (address.setWidth 4) (readRequest kind length payload) s
      | _ => s

/-- A framing error (R166): buffer emptied, counted, Link raised, receiver IDLE. -/
def linkFramingError (s : State) : State :=
  s.linkFault { s.link with rx := .idle, buffer := [], framings := countUp max16 s.link.framings } markFraming

/-- A data byte is appended; 246 unstuffed bytes are a framing error (R164, R166). -/
def appendByte (b : Byte) (s : State) : State :=
  if 245 ≤ s.link.buffer.length then linkFramingError s
  else s.withLink { s.link with rx := .collecting, buffer := s.link.buffer ++ [b] }

/-- The receiver opens a frame: COLLECTING with an empty buffer (R164). -/
def openFrame (s : State) : State := s.withLink { s.link with rx := .collecting, buffer := [] }

/-- The frame in the buffer ends, is judged, and the delimiter opens the next (R164, R165). The opening comes first, and
a broadcast Restart that is taken at this very delimiter executes after it: the receiver ends in IDLE (R152, R175), and
not in COLLECTING as R164's table says of this delimiter. DESIGN CHOICE, unsafe, log entry 29. -/
def endFrame (s : State) : State := judge s.link.buffer (openFrame s)

/-- A byte received on the request pair (R164); `stopBit` is false for a byte without its stop bit. -/
def linkByte (b : Byte) (stopBit : Bool) (s : State) : State :=
  match s.link.rx with
  | .idle => if stopBit ∧ b = delimiter then openFrame s else s
  | .collecting =>
    if !stopBit then linkFramingError s
    else if b = delimiter then endFrame s
    else if b = escape then s.withLink { s.link with rx := .escaped }
    else appendByte b s
  | .escaped =>
    if !stopBit then linkFramingError s
    else if b = escapedDelimiter then appendByte delimiter s
    else if b = escapedEscape then appendByte escape s
    else if b = delimiter then openFrame s
    else linkFramingError s

/-! ## The end of a reply (R151, R169) -/

/-- The transmitter finishes its reply: an addressed Restart executes (R151), or the transmitter is idle and the head
request is taken (R169). -/
def replyEnd (s : State) : State :=
  match s.link.tx with
  | none => s
  | some t =>
    let u := s.withLink { s.link with tx := none }
    if t.restart then executeRestart u else u.takeReady

end Sys2Proof.Machine
end

