-- ==== Sys2Proof/Machine/Events.lean ====
section
/-! DEFINITION. The meanings of the rows of spec/opcode_table.json that are events: resets, the house sample, the
clock's edges and silences, arrivals, timeouts, completions, and what the link's receiver and transmitter meet. Every
one answers a next state.

An event that another event brings about at the same instant (SEEDING_ENTRY, WINDOW_COMPLETE, QUALIFICATION_COMPLETE,
the arrivals of a fader, CUE_ACTIVATION, CUE_COMPLETION, RESTART_EXECUTE) is taken within that event, by the same
operation. As a command of its own it acts where the state holds its cause, and nothing happens where it does not.
DESIGN CHOICE, log entry 6. -/

namespace Sys2Proof.Machine

/-- What a meaning answers. -/
abbrev Answer := Host.Outcome State Fault Refusal

/-- PIN_RESET (R15, R36, R51, R68, R79, R93, R102, R129, R142, R162, R175). -/
def execPinReset (s : State) : Answer := .next (pinReset s)

/-- HOUSE_SAMPLE (R1): the house sample in progress ends, at the end set for it, and every stage works. Frame
timeouts of the same instant come before it or after it (R64, R75). Log entry 28. -/
def execHouseSample (s : State) : Answer := .next (endSample s)

/-- WORDCLOCK_EDGE (R3, R4): a rising edge of WCK, timed to the present oscillator period. -/
def execWordclockEdge (s : State) : Answer := .next (referenceEdge .wordclock s)

/-- WATCH_SILENCE (R4): if the silence of `src` is due, its watch declares a loss. -/
def execWatchSilence (src : ClockSource) (s : State) : Answer := .next (watchSilence src s)

/-- QUALIFICATION_COMPLETE (R6): with 256 good periods counted, the HCU follows the candidate. -/
def execQualificationComplete (s : State) : Answer := .next (qualificationComplete s)

/-- FRAME_ARRIVAL (R16): the port's receiver takes the bytes; each body they complete is a frame arrival. -/
def execFrameArrival (k : Fin 6) (bytes : List Byte) (s : State) : Answer :=
  .next (bytes.foldl (fun t b => ingressByte k b t) s)

/-- FRAME_TIMEOUT (R26): if the timeout is due, the port loses its source. -/
def execFrameTimeout (k : Fin 6) (s : State) : Answer := .next (frameTimeout k s)

/-- WINDOW_COMPLETE (R40): with 2^w arrivals counted, the tracker acts. -/
def execWindowComplete (k : Fin 6) (s : State) : Answer := .next (windowComplete k s)

/-- SEEDING_ENTRY (R23): with 16 consecutive good frames in HUNT, the port enters SEEDING. -/
def execSeedingEntry (k : Fin 6) (s : State) : Answer := .next (seedingEntry k s)

/-- A fader that stands SHUT has arrived there, and its owner acts (R77): the port by R58 or R65, the lane by R86; a
line's arrival is read by run control's test at the house sample (R146, R147). -/
def arrivalAtShut (f : FaderId) (s : State) : State :=
  match f with
  | .port k =>
    let p := s.ports[k]
    if p.fader.state = .shut then (s.withPort k p.onShut.1).raiseIf p.onShut.2 .slip (portBit k) else s
  | .lane n =>
    let l := s.lanes[n]
    if l.fader.state = .shut then s.withLane n l.completeSwitch else s
  | .line _ => s

/-- ARRIVAL_AT_SHUT (R77). -/
def execArrivalAtShut (f : FaderId) (s : State) : Answer := .next (arrivalAtShut f s)

/-- ARRIVAL_AT_OPEN (R73, R77): a port's or a lane's arrival calls for no action, and a line's is read by run control's
test at the house sample (R146). -/
def execArrivalAtOpen (_ : FaderId) (s : State) : Answer := .next s

/-- CUE_ACTIVATION (R114): the activation part, for one lane, of the house sample to come. -/
def execCueActivation (n : Fin 48) (s : State) : Answer := .next (activateLane n s)

/-- CUE_COMPLETION (R120): an ACTIVE slot whose progress is N completes. -/
def execCueCompletion (i : Fin 32) (s : State) : Answer := .next (completeCue i s)

/-- CONTROL_FRAME_END (R165): a delimiter received in COLLECTING ends the frame. In IDLE and in ESCAPED no delimiter ends
one (R164), and the row has no effect. DESIGN CHOICE, safe, log entry 27. -/
def execControlFrameEnd (s : State) : Answer := .next (if s.link.rx = .collecting then endFrame s else s)

/-- FRAMING_ERROR (R166): it arises in COLLECTING or ESCAPED. In IDLE the row has no effect. DESIGN CHOICE, safe, log
entry 27. -/
def execFramingError (s : State) : Answer := .next (if s.link.rx = .idle then s else linkFramingError s)

/-- ABORT (R164): the bytes 0xF6 0xF5 on the request pair, each acting by the receiver's state. In COLLECTING they
withdraw the frame; in IDLE the 0xF6 is discarded, and in ESCAPED it is a framing error (R166), and the 0xF5 then opens
a frame. DESIGN CHOICE, log entry 27. -/
def execAbort (s : State) : Answer := .next (linkByte delimiter true (linkByte escape true s))

/-- REPLY_END (R169). -/
def execReplyEnd (s : State) : Answer := .next (replyEnd s)

/-- RESTART_EXECUTE (R151, R153): the last byte of an addressed Restart's reply has left the part. -/
def execRestartExecute (s : State) : Answer :=
  .next
    (match s.link.tx with
    | some t => if t.restart then executeRestart s else s
    | none => s)

/-- SYNC_WORD (R16): the bytes 0xB3 0x5C received on port `k`. -/
def execSyncWord (k : Fin 6) (s : State) : Answer := .next (ingressByte k 0x5C (ingressByte k 0xB3 s))

/-- REQUEST_PAIR_BYTE (R164). -/
def execRequestPairByte (b : Byte) (stopBit : Bool) (s : State) : Answer := .next (linkByte b stopBit s)

end Sys2Proof.Machine
end

