-- ==== Sys2Proof/Machine/Requests.lean ====
section
/-! DEFINITION. The meanings of the rows of spec/opcode_table.json that are requests: a request frame for `dest` has
passed its check and is offered to the request queue (R165, R168); it is taken at once where the transmitter is idle
(R169), with the checks and the effect that its own rule gives (`take`), and answered unless it is a broadcast. -/

namespace Sys2Proof.Machine

/-- IDENTIFY (R172). -/
def execIdentify (dest : Address) (s : State) : Answer := .next (request dest .identify s)

/-- STATUS (R173). -/
def execStatus (dest : Address) (s : State) : Answer := .next (request dest .status s)

/-- GO (R144). -/
def execGo (dest : Address) (s : State) : Answer := .next (request dest .go s)

/-- HALT (R145). -/
def execHalt (dest : Address) (s : State) : Answer := .next (request dest .halt s)

/-- RESTART (R151, R152). -/
def execRestart (dest : Address) (s : State) : Answer := .next (request dest .restart s)

/-- COUNTERS_CLEAR (R174). -/
def execCountersClear (dest : Address) (s : State) : Answer := .next (request dest .countersClear s)

/-- CLOCK_RATE (R12). -/
def execClockRate (dest : Address) (code : Byte) (s : State) : Answer := .next (request dest (.clockRate code) s)

/-- CLOCK_SOURCE (R13). -/
def execClockSource (dest : Address) (code : Byte) (s : State) : Answer := .next (request dest (.clockSource code) s)

/-- CLOCK_QUERY (R14). -/
def execClockQuery (dest : Address) (s : State) : Answer := .next (request dest .clockQuery s)

/-- PORT_SETUP (R32). -/
def execPortSetup (dest : Address) (port enable rate latency window : Byte) (s : State) : Answer :=
  .next (request dest (.portSetup port enable rate latency window) s)

/-- PORT_ACCEPT (R33). -/
def execPortAccept (dest : Address) (port tag mask : Byte) (s : State) : Answer :=
  .next (request dest (.portAccept port tag mask) s)

/-- PORT_QUERY (R34). -/
def execPortQuery (dest : Address) (port : Byte) (s : State) : Answer := .next (request dest (.portQuery port) s)

/-- PORT_REVIVE (R35). -/
def execPortRevive (dest : Address) (port : Byte) (s : State) : Answer := .next (request dest (.portRevive port) s)

/-- LANE_BIND (R89). -/
def execLaneBind (dest : Address) (lane primary alternate mode : Byte) (s : State) : Answer :=
  .next (request dest (.laneBind lane primary alternate mode) s)

/-- LANE_SELECT (R90). -/
def execLaneSelect (dest : Address) (lane choice : Byte) (s : State) : Answer :=
  .next (request dest (.laneSelect lane choice) s)

/-- LANE_MUTE (R91). -/
def execLaneMute (dest : Address) (lane flag : Byte) (s : State) : Answer :=
  .next (request dest (.laneMute lane flag) s)

/-- LANE_QUERY (R92). -/
def execLaneQuery (dest : Address) (lane : Byte) (s : State) : Answer := .next (request dest (.laneQuery lane) s)

/-- ROUTE_WRITE (R98, R99). -/
def execRouteWrite (dest : Address) (lane count : Byte) (pairs : List Pair) (s : State) : Answer :=
  .next (request dest (.routeWrite lane count pairs) s)

/-- ROUTE_QUERY (R101). -/
def execRouteQuery (dest : Address) (lane : Byte) (s : State) : Answer := .next (request dest (.routeQuery lane) s)

/-- CUE_LOAD (R110, R111). -/
def execCueLoad (dest : Address) (slot lane priority dueNow : Byte) (due : Word32) (ramp : Word16) (count : Byte)
    (pairs : List Pair) (s : State) : Answer :=
  .next (request dest (.cueLoad slot lane priority dueNow due ramp count pairs) s)

/-- CUE_ABORT (R122). -/
def execCueAbort (dest : Address) (slot : Byte) (s : State) : Answer := .next (request dest (.cueAbort slot) s)

/-- CUE_ABORT_ALL (R124). -/
def execCueAbortAll (dest : Address) (s : State) : Answer := .next (request dest .cueAbortAll s)

/-- CUE_QUERY (R125). -/
def execCueQuery (dest : Address) (slot : Byte) (s : State) : Answer := .next (request dest (.cueQuery slot) s)

/-- CUE_SURVEY (R126). -/
def execCueSurvey (dest : Address) (s : State) : Answer := .next (request dest .cueSurvey s)

/-- LINE_SETUP (R138, R139). -/
def execLineSetup (dest : Address) (line : Byte) (trim : Word16) (delay : Word16) (s : State) : Answer :=
  .next (request dest (.lineSetup line trim delay) s)

/-- LINE_MUTE (R140). -/
def execLineMute (dest : Address) (line flag : Byte) (s : State) : Answer :=
  .next (request dest (.lineMute line flag) s)

/-- LINE_QUERY (R141). -/
def execLineQuery (dest : Address) (line : Byte) (s : State) : Answer := .next (request dest (.lineQuery line) s)

/-- CONDITION_TAKE (R157). -/
def execConditionTake (dest : Address) (s : State) : Answer := .next (request dest .conditionTake s)

/-- CONDITION_RELEASE (R158). -/
def execConditionRelease (dest : Address) (s : State) : Answer := .next (request dest .conditionRelease s)

/-- CONDITION_MASK (R159). -/
def execConditionMask (dest : Address) (set : Word16) (s : State) : Answer :=
  .next (request dest (.conditionMask set) s)

/-- CONDITION_CLEAR (R160). -/
def execConditionClear (dest : Address) (set : Word16) (s : State) : Answer :=
  .next (request dest (.conditionClear set) s)

/-- CONDITION_SURVEY (R161). -/
def execConditionSurvey (dest : Address) (s : State) : Answer := .next (request dest .conditionSurvey s)

/-- UNKNOWN_KIND (R170): a request of a kind that the kind table does not name. -/
def execUnknownKind (dest : Address) (kind : Byte) (s : State) : Answer :=
  .next (request dest (readRequest kind 0 []) s)

end Sys2Proof.Machine
end

