-- ==== Sys2Proof/Machine/Dispatch.lean ====
section
/-! DEFINITION. The dispatch: one arm per command, one meaning per arm. -/

namespace Sys2Proof.Machine

def exec (i : Instr) (s : State) : Host.Outcome State Fault Refusal :=
  match i with
  | .pinReset => Sys2Proof.Machine.execPinReset s
  | .houseSample => Sys2Proof.Machine.execHouseSample s
  | .wordclockEdge => Sys2Proof.Machine.execWordclockEdge s
  | .watchSilence src => Sys2Proof.Machine.execWatchSilence src s
  | .qualificationComplete => Sys2Proof.Machine.execQualificationComplete s
  | .frameArrival port bytes => Sys2Proof.Machine.execFrameArrival port bytes s
  | .frameTimeout port => Sys2Proof.Machine.execFrameTimeout port s
  | .windowComplete port => Sys2Proof.Machine.execWindowComplete port s
  | .seedingEntry port => Sys2Proof.Machine.execSeedingEntry port s
  | .arrivalAtShut fader => Sys2Proof.Machine.execArrivalAtShut fader s
  | .arrivalAtOpen fader => Sys2Proof.Machine.execArrivalAtOpen fader s
  | .cueActivation lane => Sys2Proof.Machine.execCueActivation lane s
  | .cueCompletion slot => Sys2Proof.Machine.execCueCompletion slot s
  | .controlFrameEnd => Sys2Proof.Machine.execControlFrameEnd s
  | .framingError => Sys2Proof.Machine.execFramingError s
  | .abort => Sys2Proof.Machine.execAbort s
  | .replyEnd => Sys2Proof.Machine.execReplyEnd s
  | .restartExecute => Sys2Proof.Machine.execRestartExecute s
  | .identify dest => Sys2Proof.Machine.execIdentify dest s
  | .status dest => Sys2Proof.Machine.execStatus dest s
  | .go dest => Sys2Proof.Machine.execGo dest s
  | .halt dest => Sys2Proof.Machine.execHalt dest s
  | .restart dest => Sys2Proof.Machine.execRestart dest s
  | .countersClear dest => Sys2Proof.Machine.execCountersClear dest s
  | .clockRate dest code => Sys2Proof.Machine.execClockRate dest code s
  | .clockSource dest code => Sys2Proof.Machine.execClockSource dest code s
  | .clockQuery dest => Sys2Proof.Machine.execClockQuery dest s
  | .portSetup dest port enable rate latency window => Sys2Proof.Machine.execPortSetup dest port enable rate latency window s
  | .portAccept dest port tag mask => Sys2Proof.Machine.execPortAccept dest port tag mask s
  | .portQuery dest port => Sys2Proof.Machine.execPortQuery dest port s
  | .portRevive dest port => Sys2Proof.Machine.execPortRevive dest port s
  | .laneBind dest lane primary alternate mode => Sys2Proof.Machine.execLaneBind dest lane primary alternate mode s
  | .laneSelect dest lane choice => Sys2Proof.Machine.execLaneSelect dest lane choice s
  | .laneMute dest lane flag => Sys2Proof.Machine.execLaneMute dest lane flag s
  | .laneQuery dest lane => Sys2Proof.Machine.execLaneQuery dest lane s
  | .routeWrite dest lane count pairs => Sys2Proof.Machine.execRouteWrite dest lane count pairs s
  | .routeQuery dest lane => Sys2Proof.Machine.execRouteQuery dest lane s
  | .cueLoad dest slot lane priority dueNow due ramp count pairs => Sys2Proof.Machine.execCueLoad dest slot lane priority dueNow due ramp count pairs s
  | .cueAbort dest slot => Sys2Proof.Machine.execCueAbort dest slot s
  | .cueAbortAll dest => Sys2Proof.Machine.execCueAbortAll dest s
  | .cueQuery dest slot => Sys2Proof.Machine.execCueQuery dest slot s
  | .cueSurvey dest => Sys2Proof.Machine.execCueSurvey dest s
  | .lineSetup dest line trim delay => Sys2Proof.Machine.execLineSetup dest line trim delay s
  | .lineMute dest line flag => Sys2Proof.Machine.execLineMute dest line flag s
  | .lineQuery dest line => Sys2Proof.Machine.execLineQuery dest line s
  | .conditionTake dest => Sys2Proof.Machine.execConditionTake dest s
  | .conditionRelease dest => Sys2Proof.Machine.execConditionRelease dest s
  | .conditionMask dest set => Sys2Proof.Machine.execConditionMask dest set s
  | .conditionClear dest set => Sys2Proof.Machine.execConditionClear dest set s
  | .conditionSurvey dest => Sys2Proof.Machine.execConditionSurvey dest s
  | .unknownKind dest kind => Sys2Proof.Machine.execUnknownKind dest kind s
  | .syncWord port => Sys2Proof.Machine.execSyncWord port s
  | .requestPairByte byte stopBit => Sys2Proof.Machine.execRequestPairByte byte stopBit s

end Sys2Proof.Machine
end

