-- ==== Sys2Proof/Safety.lean ====
section
/-! DEFINITION. What always holds of the part's state: the laws that the chapters state of faders, ports, lanes, route
lists, cues, lines, the clock, the conditions, the link and the samples; and the words in which the statements about
commands are written (`Ready`, `State.replying`). -/

namespace Sys2Proof.Machine

/-! ## Faders (R70) -/

/-- A fader's level is 64 in OPEN, 0 in SHUT, 1 to 64 in CLOSING and 0 to 63 in OPENING (R70). -/
abbrev Fader.Law (f : Fader) : Prop :=
  (f.state = .opened → f.level = 64) ∧ (f.state = .shut → f.level = 0) ∧
  (f.state = .closing → 1 ≤ f.level ∧ f.level ≤ 64) ∧ (f.state = .opening → f.level ≤ 63)

/-- A fader's direction is OPEN (R70). -/
abbrev Fader.TowardOpen (f : Fader) : Prop := f.state = .opened ∨ f.state = .opening

/-- The law of R70 for all 118 faders. -/
abbrev FaderLaw (s : State) : Prop :=
  (∀ k : Fin 6, s.ports[k].fader.Law) ∧ (∀ l : Fin 48, s.lanes[l].fader.Law) ∧ (∀ n : Fin 64, s.lines[n].fader.Law)

/-! ## Ports, trackers and resamplers -/

/-- `x` lies within `c` ± `h`. -/
abbrev Near (c h x : Nat) : Prop := c - h ≤ x ∧ x ≤ c + h

/-- The port's settings and counters lie in their ranges (R31, R32, R37, R52). -/
abbrev Port.Ranges (p : Port) : Prop :=
  (8 ≤ p.latency ∧ p.latency ≤ 48) ∧ (6 ≤ p.windowExp ∧ p.windowExp ≤ 12) ∧
  (p.badChecks ≤ max32 ∧ p.foreigns ≤ max32 ∧ p.conceals ≤ max32 ∧ p.losses ≤ max16 ∧ p.rateFaults ≤ max16) ∧
  (p.tracker.sMeas ≤ max32 ∧ p.tracker.sFilt ≤ max32 ∧ p.tracker.sApplied ≤ max32) ∧
  (p.resampler.frac < 16777216 ∧ p.resampler.softSlips ≤ max16 ∧ p.resampler.hardSlips ≤ max16 ∧
    p.resampler.overshoots ≤ max32)

/-- The port is OFF exactly while it is disabled, and its score is 256 exactly while it is BARRED (R21, R32). Its
degraded flag is set from 128 up and clear below 96 (R20), and its consecutive-good count, at most 15 between
arrivals, is 0 outside HUNT (R22, R23, R29). -/
abbrev Port.ScoreLaw (p : Port) : Prop :=
  (p.enable = false ↔ p.state = .off) ∧ p.score ≤ 256 ∧ (p.score = 256 ↔ p.state = .barred) ∧
  (128 ≤ p.score → p.degraded = true) ∧ (p.score < 96 → p.degraded = false) ∧
  p.goodRun ≤ 15 ∧ (p.state ≠ .hunt → p.goodRun = 0)

/-- Outside SEEDING and LOCKED the rings are zero, W is 0, the last frame is zeros and the tracker is IDLE (R25, R29,
R38); inside, the tracker waits or times a window that is not yet full, and the port has a last capture (R18, R39). -/
abbrev Port.WindowLaw (p : Port) : Prop :=
  (p.state.writes = false →
    p.written = 0 ∧ p.rings = zeroRings ∧ p.lastFrame = Frame.zero ∧ p.tracker.window = .idle) ∧
  (p.state.writes = true → p.tracker.window ≠ .idle ∧ p.lastCapture.isSome = true) ∧
  (match p.tracker.window with
    | .timing _ count => decide (count < 2 ^ p.windowExp)
    | _ => true) = true

/-- Outside LOCKED the read position is 0 and no slip is pending, and with the port fader SHUT the held outputs are
zero (R52, R65). The port fader's direction is OPEN exactly while the port is LOCKED with no slip pending (R76), and a
pending slip's fader is CLOSING (R57, R58). -/
abbrev Port.ResamplerLaw (p : Port) : Prop :=
  (p.state ≠ .locked → p.resampler.int = 0 ∧ p.resampler.frac = 0 ∧ p.resampler.slipPending = false) ∧
  (p.state ≠ .locked → p.fader.state = .shut → p.resampler.held = Frame.zero) ∧
  (p.fader.TowardOpen ↔ p.state = .locked ∧ p.resampler.slipPending = false) ∧
  (p.resampler.slipPending = true → p.fader.state = .closing)

/-- While the port is LOCKED its filtered step lies in the fault band and its applied step in the clamp band about S0
(R43, R45). -/
abbrev Port.StepLaw (house : HouseRate) (p : Port) : Prop :=
  p.state = .locked →
    Near (nominalStep house p.rateCode) (nominalStep house p.rateCode / 256) p.tracker.sFilt ∧
    Near (nominalStep house p.rateCode) (nominalStep house p.rateCode / 512) p.tracker.sApplied

/-- The laws of the six ports. -/
abbrev PortLaw (s : State) : Prop :=
  ∀ k : Fin 6, s.ports[k].Ranges ∧ s.ports[k].ScoreLaw ∧ s.ports[k].WindowLaw ∧ s.ports[k].ResamplerLaw ∧
    s.ports[k].StepLaw s.hcu.rate

/-! ## Lanes (R80) -/

/-- The relations of a lane record (R80), with a pending switch only while the fader is CLOSING (R85, R87). -/
abbrev Lane.Law (l : Lane) : Prop :=
  (l.primary = none → l.alternate = none) ∧ (l.alternate ≠ none → l.alternate ≠ l.primary) ∧
  (l.selection = none ↔ l.primary = none) ∧ (l.selection = some .alternate → l.alternate ≠ none) ∧
  (l.pendingSwitch = none ∨
    l.alternate ≠ none ∧ l.pendingSwitch = l.selection.map Which.other ∧ l.fader.state = .closing)

/-- The relations of R80 for every lane. -/
abbrev LaneLaw (s : State) : Prop := ∀ l : Fin 48, s.lanes[l].Law

/-! ## Route lists and cues (R94 to R96, R109, R117, R119) -/

/-- The cue that a slot holds. -/
def CueSlot.cue? : CueSlot → Option Cue
  | .free => none
  | .armed c => some c
  | .active c _ _ _ => some c
  | .spent c _ _ _ => some c

/-- The cue and progress of an ACTIVE slot. -/
def CueSlot.ramping? : CueSlot → Option (Cue × Nat)
  | .active c k _ _ => some (c, k)
  | _ => none

/-- The lane on which a slot is ACTIVE. -/
def CueSlot.rampLane? (slot : CueSlot) : Option (Fin 48) := slot.ramping?.map fun p => p.1.lane

/-- The lateness that a slot holds. -/
def CueSlot.late : CueSlot → Nat
  | .active _ _ _ late => late
  | .spent _ _ late _ => late
  | _ => 0

/-- A cue as it is stored: an ascending target set of at most 16 pairs with gains up to unity (R109, R111). -/
abbrev Cue.Law (c : Cue) : Prop :=
  c.priority ≤ 255 ∧ c.ramp ≤ 65535 ∧ c.targets.length ≤ laneRoutes ∧ c.targets.Pairwise (fun a b => a.1 < b.1) ∧
  (∀ t ∈ c.targets, t.2 ≤ unity)

/-- A lane's route list: ascending, at most 16 entries, every gain up to unity, and ramp fields in every entry
exactly while `ramping` (R94, R95, R117). -/
abbrev ListLaw (ramping : Bool) (list : List RouteEntry) : Prop :=
  list.length ≤ laneRoutes ∧ list.Pairwise (fun a b => a.line < b.line) ∧
  (∀ e ∈ list, e.gain ≤ unity ∧ e.ramp.isSome = ramping ∧
    e.ramp.all (fun r => r.start ≤ unity && r.target ≤ unity && (!r.leaving || r.target == 0)) = true)

/-- The gain that an entry has at step k of N (R117, R119): at N = 0 its target. -/
def stepGain (r : Ramp) (k n : Nat) : Nat := if n = 0 then r.target else rampGain r.start r.target k n

/-- The list of a lane on which `c` is ACTIVE at progress k: k is at most N, every entry's gain is that of step k, and
the entries that stay are the target set (R116, R117, R119). -/
abbrev RampLaw (list : List RouteEntry) (c : Cue) (k : Nat) : Prop :=
  k ≤ c.ramp ∧ (∀ e ∈ list, e.ramp.all (fun r => e.gain == stepGain r k c.ramp) = true) ∧
  (list.filter fun e => !e.leaving).map (fun e => (e.line, (e.ramp.map Ramp.target).getD 0)) = c.targets

/-- A slot's record against the route lists. A cue whose progress is N between house samples is one whose lane has
made its activation of the house sample to come (R113, R120). -/
abbrev SlotLaw (s : State) (slot : CueSlot) : Prop :=
  slot.late ≤ 65535 ∧ (∀ c ∈ slot.cue?.toList, c.Law) ∧
  (∀ p ∈ slot.ramping?.toList, RampLaw s.routes[p.1.lane] p.1 p.2 ∧ (p.2 = p.1.ramp → s.cueTaken[p.1.lane] = true))

/-- The laws of the route table and the cue table: every list (R94, R95), the pool (R96), at most one ACTIVE cue per
lane (R117), and every slot (R109). -/
abbrev RouteLaw (s : State) : Prop :=
  (∀ l : Fin 48, ListLaw (cueActiveOn s.cues l) s.routes[l]) ∧ poolUsed s.routes ≤ routePool ∧
  (∀ i j : Fin 32, s.cues[i].rampLane? ≠ none → s.cues[i].rampLane? = s.cues[j].rampLane? → i = j) ∧
  (∀ i : Fin 32, SlotLaw s s.cues[i])

/-! ## Lines and the operating state (R130, R131, R134, R137, R143) -/

/-- A line's ranges, its buffer of d samples, and its fader's direction (R130, R131, R134). -/
abbrev Line.Law (op : OpState) (l : Line) : Prop :=
  l.trim ≤ 65535 ∧ l.delay ≤ maxDelay ∧ l.buffer.length = l.delay ∧ l.clips ≤ max16 ∧
  (l.fader.TowardOpen ↔ op.opens = true ∧ l.mute = false)

/-- The laws of the lines: every line, the delay pool (R131), and every line fader SHUT in CONFIG (R137). -/
abbrev LineLaw (s : State) : Prop :=
  (∀ n : Fin 64, s.lines[n].Law s.op) ∧ delayTotal s.lines ≤ delayPool ∧
  (s.op = .config → ∀ n : Fin 64, s.lines[n].fader.state = .shut)

/-! ## The house clock unit (R5 to R9) -/

/-- Every period is good for the house rate. -/
abbrev AllGood (rate : HouseRate) (periods : List Nat) : Prop := ∀ p ∈ periods, goodPeriod rate p = true

/-- The laws of the clock's record: FREE exactly with the active source INTERNAL; a watch on the followed source
exactly in FOLLOWING and on the candidate exactly while there is one (R3); the candidate is the requested source (R8);
its count and run sum are those of its good periods, fewer than 256 (R5, R6); outside FREE the holdover period is the
sum of 256 good periods (R6, R7, R8). -/
abbrev Hcu.Law (h : Hcu) : Prop :=
  (h.regime = .free ↔ h.active = .internal) ∧ (h.regime = .following ↔ h.activeWatch.isSome = true) ∧
  (h.candidate.isSome = h.candidateWatch.isSome) ∧ (h.candidate = none ∨ h.candidate = external h.requested) ∧
  (h.goodCount = h.qualPeriods.length ∧ h.runSum = h.qualPeriods.sum ∧ h.goodCount ≤ 255 ∧
    AllGood h.rate h.qualPeriods) ∧
  (h.candidate = none → h.goodCount = 0) ∧
  (h.regime ≠ .free → h.periods.length = 256 ∧ h.holdover = h.periods.sum ∧ AllGood h.rate h.periods) ∧
  (h.regime = .free → h.candidate = external h.requested) ∧ (h.regime = .holdover → h.candidate.isSome = true) ∧
  (h.regime = .following → h.candidate = none → h.requested = h.active) ∧
  (h.sampleEnd = none → h.regime = .following) ∧ (h.holdBase.isSome = true → h.regime = .holdover)

/-- The clock's laws in the state. -/
abbrev ClockLaw (s : State) : Prop := s.hcu.Law

/-! ## Conditions and link (R154, R163, R166, R168, R169, R171) -/

/-- A detail set is empty while its latch is clear, and Clock Lost has no detail (R154). -/
abbrev ConditionLaw (s : State) : Prop :=
  (∀ i : Fin 12, s.conditions[i].latched = false → s.conditions[i].detail = 0) ∧
  s.conditions[Cond.clockLost.index].detail = 0

/-- The laws of the link interface: a buffer of at most 245 bytes, empty in IDLE (R166); at most 4 requests waiting
(R168), and none while the transmitter is idle (R169); counters up to 65,535 (R171); no reply from address 15
(R163). -/
abbrev Link.Law (l : Link) : Prop :=
  l.buffer.length ≤ 245 ∧ (l.rx = .idle → l.buffer = []) ∧ l.queue.length ≤ queueCapacity ∧
  (l.tx = none → l.queue = []) ∧ (l.badChecks ≤ max16 ∧ l.framings ≤ max16 ∧ l.overflows ≤ max16) ∧
  (l.address = broadcastAddress → l.tx = none)

/-- The link's laws in the state. -/
abbrev LinkLaw (s : State) : Prop := s.link.Law

/-! ## Samples (R62, R74, R106, R132, R137) -/

/-- A sample lies in the 24-bit range. -/
abbrev InRange (x : Sample) : Prop := sampleMin ≤ x ∧ x ≤ sampleMax

/-- Every sample that the part holds lies in the sample range: rings, last frames, held outputs and delay buffers. -/
abbrev SampleLaw (s : State) : Prop :=
  (∀ (k : Fin 6) (t : Fin 8),
    (∀ i : Fin 64, InRange s.ports[k].rings[t][i]) ∧ InRange s.ports[k].lastFrame[t] ∧
    InRange s.ports[k].resampler.held[t]) ∧
  (∀ n : Fin 64, ∀ x ∈ s.lines[n].buffer, InRange x)

/-! ## The words of the statements about commands -/

/-- The part takes a request addressed to `dest` at the instant its frame ends, and answers it: the address is the
part's own, the transmitter is idle and nothing waits (R163, R165, R168, R169). -/
abbrev Ready (dest : Address) (s : State) : Prop :=
  dest = s.link.address ∧ dest ≠ 15 ∧ s.link.tx = none ∧ s.link.queue = []

/-- The part begins to send a reply, with nothing else changed (R169). -/
def State.replying (kind : Byte) (status : Status) (content : List Byte) (s : State) : State :=
  { s with link := { s.link with tx := some ⟨wireOf (Reply.frame s.link.address kind ⟨status, content⟩), false⟩ } }

/-- The reply that a request's own rule gives first: checks with their statuses, in the rule's order (section 6.5 of
00_scope.md); none where every check passes. -/
def firstRefusal (checks : List (Bool × Status)) : Option Status := (checks.find? (·.1)).map (·.2)

/-- A sample of the eight slots interpolated at frame index i and fraction F of a port's rings, before saturation: the
frames i − 1, i, i + 1 and i + 2, each at its index mod 64 of the slot's ring, with the fraction's upper 16 bits (R25,
R60, R61). -/
def Port.interpolatedAt (p : Port) (i : Word32) (frac : Nat) : Vector Int 8 :=
  Vector.ofFn fun t : Fin 8 =>
    let frame (j : Word32) : Int := p.rings[t][j.toNat % 64]'(Nat.mod_lt _ (by decide))
    interpolate (frame (i - 1)) (frame i) (frame (i + 1)) (frame (i + 2)) (frac / 256)

/-- A condition after raises of exactly these items, and of no others: its enable and its rank in service are as
before (R154). -/
abbrev Condition.RaisedBy (items : Nat → Prop) (before after : Condition) : Prop :=
  after.enabled = before.enabled ∧ after.inService = before.inService ∧
  (after.latched = true ↔ before.latched = true ∨ ∃ n < 64, items n) ∧
  ∀ n < 64, after.detail.getLsbD n = true ↔ before.detail.getLsbD n = true ∨ items n

/-- Every route list and every stored target set stands in strictly ascending line order (R95, R109). -/
abbrev Ascending (s : State) : Prop :=
  (∀ l : Fin 48, s.routes[l].Pairwise fun a b => a.line < b.line) ∧
  ∀ i : Fin 32, ∀ c ∈ s.cues[i].cue?.toList, c.targets.Pairwise fun a b => a.1 < b.1

/-- The payload length of each kind with a fixed payload (the column Len of section 13.4). -/
def fixedLengths : List (Byte × Nat) :=
  [(0x01, 0), (0x02, 0), (0x03, 0), (0x04, 0), (0x05, 0), (0x06, 0), (0x10, 1), (0x11, 1), (0x12, 0), (0x20, 5),
   (0x21, 3), (0x22, 1), (0x23, 1), (0x30, 4), (0x31, 2), (0x32, 2), (0x33, 1), (0x41, 1), (0x51, 1), (0x52, 0),
   (0x53, 1), (0x54, 0), (0x60, 5), (0x61, 2), (0x62, 1), (0x70, 0), (0x71, 0), (0x72, 2), (0x73, 2), (0x74, 0)]

/-- A payload has a length that its kind allows and, for Route Write and Cue Load, that agrees with its pair count,
the payload's byte 1 or 10 (R98, R110, R170, section 13.4). -/
abbrev lengthAllowed (kind : Byte) (payload : List Byte) : Prop :=
  (kind, payload.length) ∈ fixedLengths ∨
  (kind = 0x40 ∧ payload.length = 2 + 3 * (payload.getD 1 0).toNat) ∨
  (kind = 0x50 ∧ payload.length = 11 + 3 * (payload.getD 10 0).toNat)

/-- The bytes of (line, gain) pairs. -/
def pairBytes (pairs : List Pair) : List Byte := pairs.flatMap fun p => p.1 :: beBytes 2 p.2.toNat

/-- The payload of a request, field by field as section 13.4 lays it out. -/
def payloadOf : Request → List Byte
  | .clockRate code => [code]
  | .clockSource code => [code]
  | .portSetup port enable rate latency window => [port, enable, rate, latency, window]
  | .portAccept port tag mask => [port, tag, mask]
  | .portQuery port => [port]
  | .portRevive port => [port]
  | .laneBind lane primary alternate mode => [lane, primary, alternate, mode]
  | .laneSelect lane choice => [lane, choice]
  | .laneMute lane flag => [lane, flag]
  | .laneQuery lane => [lane]
  | .routeWrite lane count pairs => [lane, count] ++ pairBytes pairs
  | .routeQuery lane => [lane]
  | .cueLoad slot lane priority dueNow due ramp count pairs =>
    [slot, lane, priority, dueNow] ++ beBytes 4 due.toNat ++ beBytes 2 ramp.toNat ++ [count] ++ pairBytes pairs
  | .cueAbort slot => [slot]
  | .cueQuery slot => [slot]
  | .lineSetup line trim delay => [line] ++ beBytes 2 trim.toNat ++ beBytes 2 delay.toNat
  | .lineMute line flag => [line, flag]
  | .lineQuery line => [line]
  | .conditionMask set => beBytes 2 set.toNat
  | .conditionClear set => beBytes 2 set.toNat
  | .identify => []
  | .status => []
  | .go => []
  | .halt => []
  | .restart => []
  | .countersClear => []
  | .clockQuery => []
  | .cueAbortAll => []
  | .cueSurvey => []
  | .conditionTake => []
  | .conditionRelease => []
  | .conditionSurvey => []
  | .unknown _ => []
  | .malformed _ => []

/-- The destination and the request of a row of spec/opcode_table.json that is a request. -/
def requested? : Instr → Option (Address × Request)
  | .identify d => some (d, .identify)
  | .status d => some (d, .status)
  | .go d => some (d, .go)
  | .halt d => some (d, .halt)
  | .restart d => some (d, .restart)
  | .countersClear d => some (d, .countersClear)
  | .clockRate d code => some (d, .clockRate code)
  | .clockSource d code => some (d, .clockSource code)
  | .clockQuery d => some (d, .clockQuery)
  | .portSetup d port enable rate latency window => some (d, .portSetup port enable rate latency window)
  | .portAccept d port tag mask => some (d, .portAccept port tag mask)
  | .portQuery d port => some (d, .portQuery port)
  | .portRevive d port => some (d, .portRevive port)
  | .laneBind d lane primary alternate mode => some (d, .laneBind lane primary alternate mode)
  | .laneSelect d lane choice => some (d, .laneSelect lane choice)
  | .laneMute d lane flag => some (d, .laneMute lane flag)
  | .laneQuery d lane => some (d, .laneQuery lane)
  | .routeWrite d lane count pairs => some (d, .routeWrite lane count pairs)
  | .routeQuery d lane => some (d, .routeQuery lane)
  | .cueLoad d slot lane priority dueNow due ramp count pairs =>
    some (d, .cueLoad slot lane priority dueNow due ramp count pairs)
  | .cueAbort d slot => some (d, .cueAbort slot)
  | .cueAbortAll d => some (d, .cueAbortAll)
  | .cueQuery d slot => some (d, .cueQuery slot)
  | .cueSurvey d => some (d, .cueSurvey)
  | .lineSetup d line trim delay => some (d, .lineSetup line trim delay)
  | .lineMute d line flag => some (d, .lineMute line flag)
  | .lineQuery d line => some (d, .lineQuery line)
  | .conditionTake d => some (d, .conditionTake)
  | .conditionRelease d => some (d, .conditionRelease)
  | .conditionMask d set => some (d, .conditionMask set)
  | .conditionClear d set => some (d, .conditionClear set)
  | .conditionSurvey d => some (d, .conditionSurvey)
  | .unknownKind d kind => some (d, readRequest kind 0 [])
  | _ => none

end Sys2Proof.Machine
end

