-- ==== Sys2Proof/Certificates/Slice0/Obligations.lean ====
section
/-! DEFINITION. The statements for the provers, from the numbered rules of spec/. A statement about a request is about
a part that is `Ready` for it, and gives the whole next state: what the request changes, and the reply that the part
begins to send. Where a statement uses a named operation of the model (`Fader.give`, `Port.enter`, `State.withPort`,
`houseSample`, `timeoutsFirst`, `evaluateLanes`, `Lane.retarget`, `State.raise`), another statement says what the
operation does. -/

open Sys2Proof Sys2Proof.Machine

/-! ## The step, resets and Restart -/

/-- Step runs the command at the front of the queue with the queue's rest. -/
def Obligations.StepRunsFront : Prop :=
  ∀ (c : Instr) (s : State),
    step { s with pending := c :: s.pending } = exec c s ∧
    ∀ rest, s.pending = c :: rest → step s = exec c { s with pending := rest }

/-- What the block does by itself on an empty queue: a due time-driven event is queued, or one oscillator period
passes. Due are the house sample whose end has come (R1), the silence of a followed source or a candidate once twice
the nominal period has passed since its watch's last edge, its start or its last loss (R4), and the timeout of a port
in SEEDING or LOCKED whose last capture lies ceil(4 × 256 × Fh / Fin) house ticks back or more (R26), by the present
tick counter or, where the house sample in progress is over, by the counter at its event, phase 0, for the two may come
in either order (R64, R75, log entry 28); and nothing else. That they come into the queue so is the model's choice, log
entries 4 and 5. -/
def Obligations.EmptyQueuePassesTime : Prop :=
  (∀ (s : State) (c : Instr), c ∈ dueEvents s ↔
    (c = .houseSample ∧ ∃ e, s.hcu.sampleEnd = some e ∧ e ≤ s.hcu.now) ∨
    (∃ src w, c = .watchSilence src ∧ w.since + 2 * s.hcu.rate.nominal ≤ s.hcu.now ∧
      (s.hcu.regime = .following ∧ s.hcu.active = src ∧ s.hcu.activeWatch = some w ∨
        s.hcu.candidate = some src ∧ s.hcu.candidateWatch = some w)) ∨
    ∃ (k : Fin 6) (capture : Word32), c = .frameTimeout k ∧
      (s.ports[k].state = .seeding ∨ s.ports[k].state = .locked) ∧ s.ports[k].lastCapture = some capture ∧
      let timeout := (1024 * s.hcu.rate.hertz + s.ports[k].rateCode.hertz - 1) / s.ports[k].rateCode.hertz
      (timeout ≤ (s.hcu.tickCounter - capture).toNat ∨
        (∃ e, s.hcu.sampleEnd = some e ∧ e ≤ s.hcu.now) ∧
          timeout ≤ (256#32 * (s.hcu.count + 1) - capture).toNat)) ∧
  ∀ s : State, s.pending = [] →
    (dueEvents s = [] → step s = .next { s with hcu := { s.hcu with now := s.hcu.now + 1 } }) ∧
    (∀ c, dueEvents s = [c] → step s = .next { s with pending := [c] }) ∧
    (2 ≤ (dueEvents s).length → ∃ c ∈ dueEvents s, step s = .next { s with pending := [c], draws := s.draws + 1 })

/-- PIN_RESET leaves every block at its pin-reset values (R15, R36, R51, R68, R79, R93, R102, R129, R142, R153, R162,
R175), which are those of `State.reset`. The link address, log entry 1, and the model's own fields `draws` and
`pending`, log entry 16, are kept; the model's own field `cueTaken` is cleared, log entry 12; the store of good periods
starts empty, log entry 25. -/
def Obligations.PinResetValues : Prop :=
  ∀ s : State, ∃ t, exec .pinReset s = .next t ∧
    ((t.hcu.rate, t.hcu.requested, t.hcu.regime, t.hcu.active, t.hcu.candidate) =
        (.k48, .internal, .free, .internal, none) ∧
      (t.hcu.goodCount, t.hcu.runSum, t.hcu.holdover) = (0, 0, 131072) ∧ t.hcu.count = 0 ∧ t.hcu.tickCounter = 0 ∧
      t.hcu.activeWatch = none ∧ t.hcu.candidateWatch = none) ∧
    (∀ k : Fin 6, t.ports[k] = {
      enable := false, rateCode := .r48000, latency := 24, windowExp := 9, acceptTag := 0, acceptMask := 0,
      state := .off, goodRun := 0, score := 0, degraded := false, written := 0, lastFrame := Vector.replicate 8 0,
      lastCapture := none, rings := Vector.replicate 8 (Vector.replicate 64 0), badChecks := 0, foreigns := 0,
      conceals := 0, losses := 0, rateFaults := 0, receiver := .search none,
      tracker := { window := .idle, sMeas := 0, sFilt := 0, sApplied := 0 },
      resampler := { int := 0, frac := 0, slipPending := false, held := Vector.replicate 8 0, softSlips := 0,
                     hardSlips := 0, overshoots := 0 },
      fader := { state := .shut, level := 0 } }) ∧
    (∀ l : Fin 48, t.lanes[l] = {
      primary := none, alternate := none, mode := .hold, mute := false, selection := none, pendingSwitch := none,
      fader := { state := .shut, level := 0 } } ∧ t.routes[l] = []) ∧
    (∀ i : Fin 32, t.cues[i] = .free) ∧
    (∀ n : Fin 64, t.lines[n] = {
      trim := 32768, delay := 0, mute := false, buffer := [], fader := { state := .shut, level := 0 }, clips := 0 }) ∧
    (∀ k : Fin 8, t.egress[k] = []) ∧ t.op = .config ∧
    (∀ i : Fin 12, t.conditions[i] = { latched := false, detail := 0, enabled := true, inService := false }) ∧
    t.link = { rx := .idle, buffer := [], queue := [], tx := none, address := s.link.address, badChecks := 0,
               framings := 0, overflows := 0 } ∧
    (∀ l : Fin 48, t.cueTaken[l] = false) ∧ t.draws = s.draws ∧ t.pending = s.pending ∧
    State.reset = { t with link := { t.link with address := State.reset.link.address }, draws := 0, pending := [] }

/-- A Restart executes when the reply to an addressed one has left, and when a broadcast one is taken (R151, R152,
R153): every block takes its Restart values and keeps its settings. An addressed Restart is answered before it acts:
its reply begins, and nothing else changes (R151). The clock's present instant and the egress frames are kept, log
entries 16 and 17; the store of good periods starts empty, log entry 25; and no lane's activation of the house sample
to come is made, log entry 12. -/
def Obligations.Restart : Prop :=
  (∀ s : State, ∃ t,
    (∀ w, s.link.tx = some ⟨w, true⟩ → exec .restartExecute s = .next t ∧ exec .replyEnd s = .next t) ∧
    (s.link.tx = none → s.link.queue = [] → exec (.restart 15) s = .next t) ∧
    t.hcu = {
      rate := s.hcu.rate, requested := s.hcu.requested, regime := .free, active := .internal,
      candidate := if s.hcu.requested = .internal then none else some s.hcu.requested, goodCount := 0, runSum := 0,
      qualPeriods := [], periods := [], holdover := 256 * s.hcu.rate.nominal, count := 0, now := s.hcu.now,
      sampleStart := s.hcu.now, sampleEnd := some (s.hcu.now + s.hcu.rate.nominal), holdBase := none,
      activeWatch := none,
      candidateWatch := if s.hcu.requested = .internal then none else some ⟨none, s.hcu.now⟩ } ∧
    t.hcu.tickCounter = 0 ∧
    (∀ k : Fin 6, t.ports[k] = { State.reset.ports[k] with
      enable := s.ports[k].enable, rateCode := s.ports[k].rateCode, latency := s.ports[k].latency,
      windowExp := s.ports[k].windowExp, acceptTag := s.ports[k].acceptTag, acceptMask := s.ports[k].acceptMask,
      state := if s.ports[k].enable then .hunt else .off }) ∧
    (∀ l : Fin 48, t.lanes[l] = { s.lanes[l] with
        selection := if s.lanes[l].primary = none then none else some .primary, pendingSwitch := none,
        fader := ⟨.shut, 0⟩ } ∧
      t.routes[l] = (s.routes[l].filter fun e => !(e.ramp.any (·.leaving))).map fun e =>
        { line := e.line, gain := (e.ramp.map (·.target)).getD e.gain, ramp := none }) ∧
    (∀ i : Fin 32, t.cues[i] = .free) ∧ (∀ l : Fin 48, t.cueTaken[l] = false) ∧
    (∀ n : Fin 64, t.lines[n] = { s.lines[n] with
      buffer := List.replicate s.lines[n].delay 0, fader := ⟨.shut, 0⟩, clips := 0 }) ∧
    t.egress = s.egress ∧ t.op = .config ∧ t.conditions = State.reset.conditions ∧
    t.link = { State.reset.link with address := s.link.address } ∧ t.draws = s.draws ∧ t.pending = s.pending) ∧
  ∀ (dest : Address) (s : State), Ready dest s →
    exec (.restart dest) s = .next { s with link := { s.link with
      tx := some ⟨wireOf (Reply.frame s.link.address 0x05 ⟨.done, []⟩), true⟩ } }

/-! ## The house sample -/

/-- The house sample event raises the house sample counter by 1, returns the tick phase to 0, and sets the next
boundary: the nominal period on in FREE, at a good edge in FOLLOWING, at B + floor(n × M / 256) in HOLDOVER (R1, R2,
R7, R9). The nominal period is 512 oscillator periods at 48 kHz and 256 at 96 kHz (R1). The event is made at the end
set for the house sample in progress (log entry 8). The event is the operation `houseSample`, on the state
`timeoutsFirst` that the timeouts taken before it at the same instant leave (R64, R75; statement TimeoutAndSeeding, log
entry 28). -/
def Obligations.HouseSampleClock : Prop :=
  (HouseRate.k48.nominal = 512 ∧ HouseRate.k96.nominal = 256) ∧
  ∀ s : State, ∃ t, exec .houseSample s = .next t ∧ houseSample (timeoutsFirst s) = t ∧
    (let e := max s.hcu.now (s.hcu.sampleEnd.getD s.hcu.now)
     t.hcu = { s.hcu with
       count := s.hcu.count + 1, now := e, sampleStart := e,
       sampleEnd :=
         match s.hcu.regime, s.hcu.holdBase with
         | .free, _ => some (e + s.hcu.rate.nominal)
         | .following, _ => none
         | .holdover, none => some (e + s.hcu.holdover / 256)
         | .holdover, some (b, n) => some (b + (n + 1) * s.hcu.holdover / 256),
       holdBase :=
         match s.hcu.regime, s.hcu.holdBase with
         | .holdover, none => some (e, 1)
         | .holdover, some (b, n) => some (b, n + 1)
         | _, _ => none }) ∧
    t.hcu.tickCounter = 256#32 * t.hcu.count ∧ t.link = s.link ∧ t.draws = (timeoutsFirst s).draws ∧
    t.pending = s.pending

/-- A port at a house sample, from the state in which the event finds it, `timeoutsFirst` (R64, R75). LOCKED: the read
position advances by the applied step, and by the fill a hard slip recentres it at once, the soft band sets a slip
pending, a pending slip completes when the fader reaches SHUT, and the eight slots are interpolated, saturated and
their overshoots counted (R54 to R62). Otherwise: nothing advances, and the held outputs become zero when the fader
reaches SHUT (R65). The fader takes one step (R73). Slip is raised for exactly the ports at which a hard slip is made
or a soft slip completes (R66, R154). -/
def Obligations.HouseSamplePorts : Prop :=
  ∀ s₀ : State, let s := timeoutsFirst s₀
    ∃ t, exec .houseSample s₀ = .next t ∧ ∃ slips : Fin 6 → Prop,
    (∀ k : Fin 6,
      let p := s.ports[k]
      let r := p.resampler
      let i := r.int + BitVec.ofNat 32 ((r.frac + p.tracker.sApplied) / 16777216)
      let frac := (r.frac + p.tracker.sApplied) % 16777216
      let fill := (p.written - i).toInt
      let centre := p.written - BitVec.ofNat 32 p.latency
      let outs (i : Word32) (frac : Nat) : Frame :=
        Vector.ofFn fun t => max (-8388608) (min 8388607 (p.interpolatedAt i frac)[t])
      let overs (i : Word32) (frac : Nat) : Nat :=
        let beyond (t : Fin 8) : Bool :=
          (p.interpolatedAt i frac)[t] < -8388608 || 8388607 < (p.interpolatedAt i frac)[t]
        min (r.overshoots + ((List.finRange 8).filter beyond).length) 4294967295
      if p.state ≠ .locked then
        ¬slips k ∧ t.ports[k] = { p with
          fader := p.fader.step,
          resampler := { r with
            held := if p.fader.state ≠ .shut ∧ p.fader.step.state = .shut then Vector.replicate 8 0 else r.held } }
      else if fill < 3 ∨ 60 < fill then
        slips k ∧ t.ports[k] = { p with
          fader := (if r.slipPending then p.fader.giveOpen else p.fader).step,
          resampler := { r with
            int := centre, frac := 0, slipPending := false, held := outs centre 0,
            overshoots := overs centre 0, hardSlips := min (r.hardSlips + 1) 65535 } }
      else if r.slipPending = false ∧ (fill ≤ 6 ∨ 56 ≤ fill) ∧ p.fader = ⟨.opening, 0⟩ then
        slips k ∧ t.ports[k] = { p with
          fader := ⟨.opening, 1⟩,
          resampler := { r with
            int := centre, frac := 0, held := outs centre 0, overshoots := overs centre 0,
            softSlips := min (r.softSlips + 1) 65535 } }
      else
        let pending := r.slipPending || decide (fill ≤ 6 ∨ 56 ≤ fill)
        let before := if pending && !r.slipPending then p.fader.giveShut else p.fader
        if pending = true ∧ before.state ≠ .shut ∧ before.step.state = .shut then
          slips k ∧ t.ports[k] = { p with
            fader := ⟨.opening, 0⟩,
            resampler := { r with
              int := centre, frac := 0, slipPending := false, held := outs i frac, overshoots := overs i frac,
              softSlips := min (r.softSlips + 1) 65535 } }
        else
          ¬slips k ∧ t.ports[k] = { p with
            fader := before.step,
            resampler := { r with
              int := i, frac := frac, slipPending := pending, held := outs i frac, overshoots := overs i frac } }) ∧
    Condition.RaisedBy (fun n => ∃ k : Fin 6, k.val = n ∧ slips k) s.conditions[Cond.slip.index]
      t.conditions[Cond.slip.index]

/-- A lane at a house sample, from the state in which the event finds it, `timeoutsFirst` (R64, R75): its fader takes
one step, and where that step brings it to SHUT a pending switch completes (R73, R81, R86). -/
def Obligations.HouseSampleLanes : Prop :=
  ∀ s₀ : State, let s := timeoutsFirst s₀
    ∃ t, exec .houseSample s₀ = .next t ∧ ∀ l : Fin 48,
    let a := s.lanes[l]
    match a.pendingSwitch with
    | some w =>
      if a.fader.state ≠ .shut ∧ a.fader.step.state = .shut then
        t.lanes[l] = { a with
          selection := some w, pendingSwitch := none, fader := if a.mute then ⟨.shut, 0⟩ else ⟨.opening, 0⟩ }
      else t.lanes[l] = { a with fader := a.fader.step }
    | none => t.lanes[l] = { a with fader := a.fader.step }

/-- The cue table at a house sample. First the ramp steps: an ACTIVE cue's progress rises by 1 and every gain of its
lane is that of the new step (R113, R119). Then the lanes in ascending order make their activations, each as
CUE_ACTIVATION gives it, on the state that the lanes before it leave (R113, R114; statement CueActivates). Then, after
the mix, every ACTIVE cue at step N completes: its leaving entries are gone, its lane's list is its target set, and
the slot is SPENT with outcome COMPLETED (R120). The slots and lists of a lane with no ACTIVE and no due ARMED cue are
kept. Cue Done is raised for exactly the slots that become SPENT (R128, R154). That the activations of the house
sample are marked, and the marks are cleared at its end, is the model's form, log entry 12. -/
def Obligations.HouseSampleRamp : Prop :=
  ∀ s : State, RouteLaw s → ∃ t, exec .houseSample s = .next t ∧
    (∀ (i : Fin 32) (c : Cue) (k : Nat) (h : Word32) (late : Nat),
      s.cues[i] = .active c k h late → s.cueTaken[c.lane] = false →
      if k + 1 < c.ramp then
        t.cues[i] = .active c (k + 1) h late ∧
        t.routes[c.lane] = s.routes[c.lane].map fun e => { e with
          gain := (e.ramp.map fun r =>
            ((r.start : Int) + (((r.target : Int) - r.start) * (k + 1)).tdiv c.ramp).toNat).getD e.gain }
      else
        t.cues[i] = .spent c .completed late (some h) ∧
        t.routes[c.lane] = c.targets.map (fun p => { line := p.1, gain := p.2, ramp := none })) ∧
    (∃ u : Nat → State,
      u 0 = { s with cues := (u 0).cues, routes := (u 0).routes } ∧
      (∀ i : Fin 32, (u 0).cues[i] =
        match s.cues[i] with
        | .active c k h late => if s.cueTaken[c.lane] then .active c k h late else .active c (k + 1) h late
        | other => other) ∧
      (∀ l : Fin 48, ((∀ i : Fin 32, s.cues[i].rampLane? ≠ some l) ∨ s.cueTaken[l] = true) →
        (u 0).routes[l] = s.routes[l]) ∧
      (∀ (i : Fin 32) (c : Cue) (k : Nat) (h : Word32) (late : Nat),
        s.cues[i] = .active c k h late → s.cueTaken[c.lane] = false →
        (u 0).routes[c.lane] = s.routes[c.lane].map fun e => { e with
          gain := (e.ramp.map fun r =>
            ((r.start : Int) + (((r.target : Int) - r.start) * (k + 1)).tdiv c.ramp).toNat).getD e.gain }) ∧
      (∀ l : Fin 48, Ascending (u l.val) ∧ exec (.cueActivation l) (u l.val) = .next (u (l.val + 1))) ∧
      (∀ (i : Fin 32) (c : Cue) (h : Word32) (late : Nat), (u 48).cues[i] = .active c c.ramp h late →
        t.cues[i] = .spent c .completed late (some h) ∧
        t.routes[c.lane] = ((u 48).routes[c.lane].filter fun e => !(e.ramp.any (·.leaving))).map fun e =>
          { e with ramp := none }) ∧
      (∀ i : Fin 32, (∀ c h late, (u 48).cues[i] ≠ .active c c.ramp h late) → t.cues[i] = (u 48).cues[i]) ∧
      ∀ l : Fin 48, (∀ (i : Fin 32) (c : Cue) (h : Word32) (late : Nat),
          (u 48).cues[i] = .active c c.ramp h late → c.lane ≠ l) →
        t.routes[l] = (u 48).routes[l]) ∧
    (∀ l : Fin 48, (∀ i : Fin 32, s.cues[i].rampLane? ≠ some l) →
      (∀ (i : Fin 32) (c : Cue), s.cues[i] = .armed c → c.lane = l → 2 ^ 31 ≤ (s.hcu.count - c.due).toNat) →
      t.routes[l] = s.routes[l] ∧
      ∀ (i : Fin 32) (c : Cue), s.cues[i].cue? = some c → c.lane = l → t.cues[i] = s.cues[i]) ∧
    (∀ i : Fin 32, s.cues[i].isArmed = false → s.cues[i].rampLane? = none → t.cues[i] = s.cues[i]) ∧
    (∀ l : Fin 48, t.cueTaken[l] = false) ∧
    Condition.RaisedBy
      (fun n => ∃ i : Fin 32, i.val = n ∧ (∀ c o late h, s.cues[i] ≠ .spent c o late h) ∧
        ∃ c o late h, t.cues[i] = .spent c o late h)
      s.conditions[Cond.cueDone.index] t.conditions[Cond.cueDone.index]

/-- The audio of one house sample, from the resamplers to the egress frames, in terms of the state in which the event
finds the part, `timeoutsFirst` (R64, R75), and of the state it leaves: each lane output is trunc(trunc(p × Lp / 64) ×
Ll / 64); each line's sum of lane outputs times gains is trimmed, rounded and saturated; the line delays the value, its
fader scales it, and its egress port sends it; a saturated line counts a clip, and Clip is raised for exactly these
lines (R74, R78, R81, R104, R105, R106, R108, R132, R134, R135, R154). Of the conditions, only Slip, Clip, Cue Done and
State Reached can change. -/
def Obligations.HouseSampleSignalPath : Prop :=
  ∀ s₀ : State, RouteLaw s₀ → let s := timeoutsFirst s₀
    ∃ t, exec .houseSample s₀ = .next t ∧
    let portOut (b : Binding) : Int := (t.ports[b.port].resampler.held[b.slot] * t.ports[b.port].fader.level).tdiv 64
    let selected (l : Fin 48) : Option Binding :=
      s.lanes[l].selection.bind fun w => if w = .primary then s.lanes[l].primary else s.lanes[l].alternate
    let laneOut (l : Fin 48) : Int :=
      (((selected l).map portOut).getD 0 * t.lanes[l].fader.level).tdiv 64
    let gain (l : Fin 48) (n : Fin 64) : Int := (((t.routes[l].find? fun e => e.line = n).map (·.gain)).getD 0 : Nat)
    let acc (n : Fin 64) : Int := ((List.finRange 48).map fun l => laneOut l * gain l n).sum
    let exact (n : Fin 64) : Int := (acc n * s.lines[n].trim + 2 ^ 29) / 2 ^ 30
    let mixed (n : Fin 64) : Int := max (-8388608) (min 8388607 (exact n))
    let delayed (n : Fin 64) : Int := s.lines[n].buffer.headD (mixed n)
    (∀ n : Fin 64,
      t.lines[n] = { s.lines[n] with
        buffer := (s.lines[n].buffer ++ [mixed n]).drop 1, fader := s.lines[n].fader.step,
        clips := if exact n = mixed n then s.lines[n].clips else min (s.lines[n].clips + 1) 65535 }) ∧
    Condition.RaisedBy (fun m => ∃ n : Fin 64, n.val = m ∧ exact n ≠ mixed n) s.conditions[Cond.clip.index]
      t.conditions[Cond.clip.index] ∧
    (∀ i : Fin 12, i ≠ Cond.slip.index → i ≠ Cond.clip.index → i ≠ Cond.cueDone.index →
      i ≠ Cond.stateReached.index → t.conditions[i] = s.conditions[i]) ∧
    ∀ k : Fin 8, t.egress[k] =
      audioFrame (BitVec.ofNat 8 (16 * s.link.address.toNat + k.val))
        (Vector.ofFn fun i : Fin 8 =>
          let n : Fin 64 := ⟨8 * k.val + i.val, by omega⟩
          (delayed n * t.lines[n].fader.level).tdiv 64)

/-- Run control at a house sample: STARTING becomes RUN when every unmuted line fader is OPEN after its step, and
STOPPING becomes CONFIG when all 64 are SHUT, each with State Reached raised; no other state changes (R146, R147,
R149). -/
def Obligations.HouseSampleRunControl : Prop :=
  ∀ s : State, ∃ t, exec .houseSample s = .next t ∧
    let opened := ∀ n : Fin 64, s.lines[n].mute = false → t.lines[n].fader.state = .opened
    let shut := ∀ n : Fin 64, t.lines[n].fader.state = .shut
    let before := s.conditions[Cond.stateReached.index]
    let after := t.conditions[Cond.stateReached.index]
    (s.op = .config → t.op = .config ∧ after = before) ∧ (s.op = .run → t.op = .run ∧ after = before) ∧
    (s.op = .starting → opened →
      t.op = .run ∧ after = { before with latched := true, detail := before.detail ||| 1#64 }) ∧
    (s.op = .starting → ¬opened → t.op = .starting ∧ after = before) ∧
    (s.op = .stopping → shut →
      t.op = .config ∧ after = { before with latched := true, detail := before.detail ||| 2#64 }) ∧
    (s.op = .stopping → ¬shut → t.op = .stopping ∧ after = before)

/-- Every sample of a frame formed while the operating state is CONFIG is zero (R137). -/
def Obligations.ConfigIsSilent : Prop :=
  ∀ s : State, LineLaw s → FaderLaw s → ∃ t, exec .houseSample s = .next t ∧
    (t.op = .config → ∀ k : Fin 8, t.egress[k] =
      audioFrame (BitVec.ofNat 8 (16 * s.link.address.toNat + k.val)) (Vector.replicate 8 0))

/-- From CONFIG, with at least one line unmuted, a Go taken between two house samples brings the part to RUN at the
64th house sample after it and no sooner (R73, R144, R146). -/
def Obligations.GoReachesRun : Prop :=
  ∀ (dest : Address) (s : State), Ready dest s → LineLaw s → FaderLaw s → s.op = .config →
    (∃ n : Fin 64, s.lines[n].mute = false) →
    ∃ t, exec (.go dest) s = .next t ∧ ∀ u : Nat → State, u 0 = t →
      (∀ j, exec .houseSample (u j) = .next (u (j + 1))) →
      (∀ j ≤ 63, (u j).op = .starting) ∧ (u 64).op = .run

/-! ## The house clock unit -/

/-- A WORDCLOCK_EDGE is an edge of WCK at the present instant (R3), and what an edge does to a source that is not
followed, WCK or an ingress port: of no effect where it is not the candidate; it opens the candidate's first period,
counts a good period, or on a bad one sets count and run sum to 0, and the 256th good period completes the
qualification at once (R3, R4, R5, R6). Its silence: due, it sets count and run sum to 0 and begins the watch again,
and the candidate stays; not due, or of a source that is not watched, it does nothing. A silence that is not due is
the model's case, log entry 9. -/
def Obligations.CandidateWatch : Prop :=
  (∀ s : State, exec .wordclockEdge s = .next (referenceEdge .wordclock s)) ∧
  ∀ (s : State) (src : ClockSource), (s.hcu.regime ≠ .following ∨ s.hcu.active ≠ src) →
    (s.hcu.candidate ≠ some src →
      exec (.watchSilence src) s = .next s ∧ referenceEdge src s = s) ∧
    ∀ w : Watch, s.hcu.candidate = some src → s.hcu.candidateWatch = some w →
      let edge : Option Watch := some ⟨some s.hcu.now, s.hcu.now⟩
      let nominal := s.hcu.rate.nominal
      exec (.watchSilence src) s = .next (
        if w.since + 2 * nominal ≤ s.hcu.now then
          { s with hcu := { s.hcu with
            goodCount := 0, runSum := 0, qualPeriods := [], candidateWatch := some ⟨none, s.hcu.now⟩ } }
        else s) ∧
      match w.lastEdge with
      | none => referenceEdge src s = { s with hcu := { s.hcu with candidateWatch := edge } }
      | some e =>
        let period := s.hcu.now - e
        if nominal - nominal / 256 ≤ period ∧ period ≤ nominal + nominal / 256 then
          let counted := { s with hcu := { s.hcu with
            goodCount := s.hcu.goodCount + 1, runSum := s.hcu.runSum + period,
            qualPeriods := s.hcu.qualPeriods ++ [period], candidateWatch := edge } }
          if s.hcu.goodCount + 1 = 256 then .next (referenceEdge src s) = exec .qualificationComplete counted
          else referenceEdge src s = counted
        else
          referenceEdge src s = { s with hcu := { s.hcu with
            goodCount := 0, runSum := 0, qualPeriods := [], candidateWatch := edge } }

/-- The watch of the followed source, WCK or an ingress port. A good period ends the house sample in progress at the
edge that closes it, and replaces the oldest of the 256 periods whose sum is the holdover period (R7); the first edge
of a watch only opens a period (R4). A loss, at a bad edge or by silence, takes the part into HOLDOVER: Clock Lost is
raised, every tracker of a SEEDING or LOCKED port waits, the requested source becomes the candidate if there was none,
and the house sample in progress ends at T0 + floor(M / 256), or at once if that is past. The silence falls due twice
the nominal period after the last edge, and not before (R4, R8, R10, R11, R48). An end "at once" is made within the
same command, log entry 11, with frame timeouts of that instant before it or after it (`timeoutsFirst`, R64, R75); a
WATCH_SILENCE that is not due changes nothing, log entry 9. That WORDCLOCK_EDGE is the edge of WCK is in
CandidateWatch, and that an arrival at a watched port is its edge in FrameReceived. -/
def Obligations.FollowedWatch : Prop :=
  (∀ (s : State) (w : Watch), s.hcu.regime = .following → s.hcu.activeWatch = some w →
    let edge : Option Watch := some ⟨some s.hcu.now, s.hcu.now⟩
    let edged := referenceEdge s.hcu.active s
    (s.hcu.active = .wordclock → exec .wordclockEdge s = .next edged) ∧
    match w.lastEdge with
    | none => edged = { s with hcu := { s.hcu with activeWatch := edge } }
    | some e =>
      let period := s.hcu.now - e
      let nominal := s.hcu.rate.nominal
      nominal - nominal / 256 ≤ period → period ≤ nominal + nominal / 256 →
        edged = houseSample (timeoutsFirst { s with hcu := { s.hcu with
          activeWatch := edge, periods := s.hcu.periods.drop 1 ++ [period],
          holdover := s.hcu.holdover + period - s.hcu.periods.headD 0, sampleEnd := some s.hcu.now } }) ∧
        edged.hcu.count = s.hcu.count + 1 ∧ edged.hcu.sampleStart = s.hcu.now) ∧
  ∀ (s : State) (w : Watch), s.hcu.regime = .following → s.hcu.activeWatch = some w →
    let h := s.hcu
    let held : Hcu := { h with
      regime := .holdover, activeWatch := none, holdBase := none,
      sampleEnd := some (max (h.sampleStart + h.holdover / 256) h.now) }
    let lost (edge : Bool) : State := { s with
      hcu :=
        if h.candidate.isSome ∨ h.requested = .internal then held
        else { held with
          candidate := some h.requested, goodCount := 0, runSum := 0, qualPeriods := [],
          candidateWatch := some (if edge ∧ h.requested = h.active then ⟨some h.now, h.now⟩ else ⟨none, h.now⟩) },
      ports := Vector.ofFn fun k =>
        if s.ports[k].state = .seeding ∨ s.ports[k].state = .locked then
          { s.ports[k] with tracker := { s.ports[k].tracker with window := .waiting } }
        else s.ports[k],
      conditions := s.conditions.set 0 { s.conditions[0] with latched := true } }
    let ended (t : State) : State :=
      if h.sampleStart + h.holdover / 256 ≤ h.now then houseSample (timeoutsFirst t) else t
    h.Law →
    (∀ e, w.lastEdge = some e →
      ¬(h.rate.nominal - h.rate.nominal / 256 ≤ h.now - e ∧ h.now - e ≤ h.rate.nominal + h.rate.nominal / 256) →
      referenceEdge h.active s = ended (lost true)) ∧
    (w.since + 2 * h.rate.nominal ≤ h.now → exec (.watchSilence h.active) s = .next (ended (lost false))) ∧
    (h.now < w.since + 2 * h.rate.nominal → exec (.watchSilence h.active) s = .next s)

/-- The candidate's 256th consecutive good period: the part follows it, with the run sum as holdover period; Clock
Follow is raised with the source's code (section 13.3); every tracker of a SEEDING or LOCKED port waits; and the house
sample in progress ends at once if it has lasted half the nominal period, and else at the next good edge (R6, R10, R11,
R48). Before the 256th the event does nothing (R5). An end "at once" is made within the same command, after the change,
log entry 11, with frame timeouts of that instant before it or after it (`timeoutsFirst`, R64, R75). As a command of
its own: log entry 6. -/
def Obligations.QualificationCompletes : Prop :=
  ∀ (s : State) (c : ClockSource), s.hcu.candidate = some c →
    let h := s.hcu
    let late := h.rate.nominal / 2 ≤ h.now - h.sampleStart
    let code : Nat := match c with | .internal => 0 | .wordclock => 1 | .port k => k.val + 2
    let followed : State := { s with
      hcu := { h with
        regime := .following, active := c, holdover := h.runSum, periods := h.qualPeriods, candidate := none,
        goodCount := 0, runSum := 0, qualPeriods := [], activeWatch := h.candidateWatch, candidateWatch := none,
        holdBase := none, sampleEnd := if late then some h.now else none },
      ports := Vector.ofFn fun k =>
        if s.ports[k].state = .seeding ∨ s.ports[k].state = .locked then
          { s.ports[k] with tracker := { s.ports[k].tracker with window := .waiting } }
        else s.ports[k],
      conditions := s.conditions.set 11 { s.conditions[11] with
        latched := true, detail := s.conditions[11].detail ||| 1#64 <<< code } }
    (h.goodCount = 256 →
      exec .qualificationComplete s = .next (if late then houseSample (timeoutsFirst followed) else followed)) ∧
    (h.goodCount ≠ 256 → exec .qualificationComplete s = .next s)

/-- Clock Rate, by the checks and effects of R12: in CONFIG a new rate takes the clock to FREE on INTERNAL, every
enabled port that is not BARRED back to HUNT, and the requested source to the start of its qualification. That the
ports change at one event is the model's reading, log entry 13 (State.withPorts, in LaneEvaluation), and so is that a
house sample which has lasted the new nominal period ends within the same command, log entry 11. -/
def Obligations.ClockRateRequest : Prop :=
  ∀ (dest : Address) (code : Byte) (s : State), Ready dest s →
    match firstRefusal [(s.op ≠ .config, .locked), (1 < code.toNat, .range)] with
    | some status => exec (.clockRate dest code) s = .next (s.replying 0x10 status [])
    | none =>
      let rate : HouseRate := if code = 0 then .k48 else .k96
      if rate = s.hcu.rate then exec (.clockRate dest code) s = .next (s.replying 0x10 .done [])
      else
        let h := s.hcu
        let hunted := s.withPorts (Vector.ofFn fun k =>
          if s.ports[k].enable = true ∧ s.ports[k].state ≠ .barred then s.ports[k].enter .hunt else s.ports[k])
        let changed := { hunted with hcu := { h with
          rate := rate, holdover := 256 * rate.nominal, regime := .free, active := .internal, activeWatch := none,
          goodCount := 0, runSum := 0, qualPeriods := [], holdBase := none,
          candidate := if h.requested = .internal then none else some h.requested,
          candidateWatch := if h.requested = .internal then none else some ⟨none, h.now⟩,
          sampleEnd := some (max (h.sampleStart + rate.nominal) h.now) } }
        PortLaw s → exec (.clockRate dest code) s = .next
          ((if h.sampleStart + rate.nominal ≤ h.now then houseSample changed else changed).replying 0x10 .done [])

/-- Clock Source, by the checks and the cases of R13. That a house sample which has lasted the nominal period ends
within the same command, after the change to FREE (R10), is the model's reading, log entry 11; frame timeouts of that
instant come before it or after it (`timeoutsFirst`, R64, R75). -/
def Obligations.ClockSourceRequest : Prop :=
  ∀ (dest : Address) (code : Byte) (src : ClockSource) (s : State), Ready dest s →
    (7 < code.toNat → exec (.clockSource dest code) s = .next (s.replying 0x11 .range [])) ∧
    (code = (match src with | .internal => 0 | .wordclock => 1 | .port k => BitVec.ofNat 8 (k.val + 2)) →
      let h := s.hcu
      let answer (t : State) : Answer := .next (t.replying 0x11 .done [])
      let withdrawn : Hcu := { h with
        candidate := none, goodCount := 0, runSum := 0, qualPeriods := [], candidateWatch := none }
      match src with
      | .internal =>
        if h.regime = .free then
          exec (.clockSource dest code) s = answer { s with hcu := { withdrawn with
            requested := .internal, active := .internal, activeWatch := none } }
        else
          let freed := { s with
            hcu := { withdrawn with
              requested := .internal, regime := .free, active := .internal, activeWatch := none, holdBase := none,
              sampleEnd := some (max (h.sampleStart + h.rate.nominal) h.now) },
            ports := Vector.ofFn fun k =>
              if s.ports[k].state = .seeding ∨ s.ports[k].state = .locked then
                { s.ports[k] with tracker := { s.ports[k].tracker with window := .waiting } }
              else s.ports[k] }
          exec (.clockSource dest code) s =
            answer (if h.sampleStart + h.rate.nominal ≤ h.now then houseSample (timeoutsFirst freed) else freed)
      | _ =>
        if (∃ k, src = .port k ∧ s.ports[k].rateCode.hertz ≠ h.rate.hertz) then
          exec (.clockSource dest code) s = .next (s.replying 0x11 .range [])
        else if h.regime = .following ∧ h.active = src then
          if h.candidate = none then exec (.clockSource dest code) s = answer s
          else exec (.clockSource dest code) s = answer { s with hcu := { withdrawn with requested := src } }
        else exec (.clockSource dest code) s = answer { s with hcu := { h with
          requested := src, candidate := some src, goodCount := 0, runSum := 0, qualPeriods := [],
          candidateWatch := some ⟨none, h.now⟩ } })

/-! ## Ingress ports -/

/-- A port leaves for OFF, HUNT or BARRED: rings zero, W, the last frame and the consecutive-good count 0, the tracker
IDLE with its steps kept, the read position 0 and no slip pending; from LOCKED the held outputs stay and the fader's
target is SHUT, and only a fader that is SHUT by that at once zeroes them (R25, R29, R49, R64, R65). -/
def Obligations.PortLeaves : Prop :=
  ∀ (p : Port) (st : PortState),
    let target := if p.state = .locked then p.fader.giveShut else p.fader
    p.enter st = { p with
      state := st, goodRun := 0, written := 0, rings := Vector.replicate 8 (Vector.replicate 64 0),
      lastFrame := Vector.replicate 8 0, tracker := { p.tracker with window := .idle }, fader := target,
      resampler := { p.resampler with
        int := 0, frac := 0, slipPending := false,
        held :=
          if p.state = .locked ∧ p.fader.state ≠ .shut ∧ target.state = .shut then Vector.replicate 8 0
          else p.resampler.held } }

/-- The bytes that reach a port (R16). They are received one by one, in every state of the port, however they are cut
into commands; SYNC_WORD is the bytes 0xB3 0x5C, in search and in collect alike (log entry 20). In search a byte 0x5C
right after 0xB3 moves the receiver to collect, and any other byte is only kept in hand. In collect a byte is added to
the body, and the 26th completes it: the receiver is back in search with nothing in hand, and the frame arrives. In
particular sync word and body in one command at a searching port are one arrival. In OFF or BARRED the arrival is
discarded (R18). In the other states, where the port is no watched clock source, it is handled with the present tick
count as its capture. Where the port is followed or is the candidate, the arrival is its reference edge too, whatever
its class (R3, R18), with the edge's effect as CandidateWatch and FollowedWatch give it: the arrival and the edge act
in one of the two orders, and where the edge makes a house sample event the capture reads the counter after it, at
phase 0 (R16). Which order is a free value, and where the edge makes no house sample event the capture reads the
counter as the order leaves it: log entry 3. -/
def Obligations.FrameReceived : Prop :=
  ∀ (k : Fin 6) (s : State),
    let heard (r : Receiver) : State := { s with ports := s.ports.set k { s.ports[k] with receiver := r } }
    let handled (body : List Byte) (arrived : Answer) : Prop :=
      (s.ports[k].state = .off ∨ s.ports[k].state = .barred → arrived = .next (heard (.search none))) ∧
      (s.ports[k].state ≠ .off → s.ports[k].state ≠ .barred →
        (s.hcu.watches (.port k) = false →
          arrived = .next (portArrival k s.hcu.tickCounter body (heard (.search none)))) ∧
        (s.hcu.watches (.port k) = true →
          let drawn := { heard (.search none) with draws := s.draws + 1 }
          let edged := referenceEdge (.port k) drawn
          let capture := if edged.hcu.count = s.hcu.count then s.hcu.tickCounter else edged.hcu.tickCounter
          (arrived = .next (portArrival k edged.hcu.tickCounter body edged) ∨
            arrived = .next (referenceEdge (.port k) (portArrival k capture body drawn))) ∧
          (edged.hcu.count ≠ s.hcu.count → edged.hcu.tickCounter = 256#32 * edged.hcu.count)))
    (s.hcu.watches (.port k) = true ↔
      s.hcu.regime = .following ∧ s.hcu.active = .port k ∧ s.hcu.activeWatch ≠ none ∨
        s.hcu.candidate = some (.port k) ∧ s.hcu.candidateWatch ≠ none) ∧
    (∀ bytes more : List Byte, ∃ t, exec (.frameArrival k bytes) s = .next t ∧
      exec (.frameArrival k (bytes ++ more)) s = exec (.frameArrival k more) t) ∧
    exec (.syncWord k) s = exec (.frameArrival k [0xB3, 0x5C]) s ∧
    (∀ inHand : Option Byte, s.ports[k].receiver = .search inHand →
      (∀ b : Byte, exec (.frameArrival k [b]) s = .next (heard
        (if inHand = some 0xB3#8 ∧ b = 0x5C#8 then .collect [] else .search (some b)))) ∧
      exec (.syncWord k) s = .next (heard (.collect [])) ∧
      ∀ body : List Byte, body.length = 26 → handled body (exec (.frameArrival k (0xB3#8 :: 0x5C#8 :: body)) s)) ∧
    ∀ body : List Byte, s.ports[k].receiver = .collect body → ∀ b : Byte,
      (body.length < 25 → exec (.frameArrival k [b]) s = .next (heard (.collect (body ++ [b])))) ∧
      (body.length = 25 → handled (body ++ [b]) (exec (.frameArrival k [b]) s))

/-- An arrival is classed by its check, then by its tag under the mask, and carries a two's complement sample of three
bytes for each slot (R17, section 13.1); its score update comes first: a good frame lowers the score by 1, not below 0,
and any other raises it by 8, not above 256, with its counter (R19, R31); the degraded flag follows the thresholds 128
and 96, and Port Warn is raised at a crossing of 96 from below (R20). After it, a score of 256 bars the port and raises
Port Barred, and nothing is written (R21). In HUNT a good frame raises the count, a bad one sets it to 0, and the 16th
good one enters SEEDING with cleared rings and a window from this capture (R22, R23, R38). In SEEDING and LOCKED the
frame, or for a bad one the last frame, is written at W mod 64, W rises, and the tracker counts the arrival or opens
its window with it (R24, R25, R39, R48); a full window completes. That lanes evaluate at each change of rank which one
arrival makes is the model's reading, log entry 23. -/
def Obligations.ArrivalHandled : Prop :=
  (∀ (p : Port) (body : List Byte), body.length = 26 →
    let c := p.classify body
    let q := (p.scoreFrame c).judgeDegraded
    (c = .badCheck ↔ body[25]? ≠ some (crc8 (body.take 25))) ∧
    (c = .foreign ↔ body[25]? = some (crc8 (body.take 25)) ∧
      (body.headD 0 &&& p.acceptMask) ≠ (p.acceptTag &&& p.acceptMask)) ∧
    q.score = (if c = .good then p.score - 1 else min (p.score + 8) 256) ∧
    q.badChecks = (if c = .badCheck then min (p.badChecks + 1) 4294967295 else p.badChecks) ∧
    q.foreigns = (if c = .foreign then min (p.foreigns + 1) 4294967295 else p.foreigns) ∧
    q.degraded = (decide (128 ≤ q.score) || (decide (96 ≤ q.score) && p.degraded)) ∧
    (warns p q = true ↔ p.score < 96 ∧ 96 ≤ q.score) ∧
    (∀ t : Fin 8, (bodySamples body)[t] = (body.getD (1 + 3 * t.val) 0 ++ body.getD (2 + 3 * t.val) 0 ++
      body.getD (3 + 3 * t.val) 0 : BitVec 24).toInt) ∧
    q = { p with score := q.score, badChecks := q.badChecks, foreigns := q.foreigns, degraded := q.degraded }) ∧
  ∀ (k : Fin 6) (capture : Word32) (body : List Byte) (s : State),
    let p := s.ports[k]
    let c := p.classify body
    let q := ({ p with lastCapture := some capture }.scoreFrame c).judgeDegraded
    let scored := if p.score < 96 ∧ 96 ≤ q.score then (s.withPort k q).raise .portWarn (1#64 <<< k.val)
      else s.withPort k q
    let samples := bodySamples body
    p.state = .hunt ∨ p.state = .seeding ∨ p.state = .locked →
    portArrival k capture body s =
      if q.score = 256 then (scored.withPort k (q.enter .barred)).raise .portBarred (1#64 <<< k.val)
      else if p.state = .hunt then
        if c = .good ∧ p.goodRun = 15 then
          scored.withPort k { q with
            state := .seeding, goodRun := 0, written := 0, rings := Vector.replicate 8 (Vector.replicate 64 0),
            lastFrame := Vector.replicate 8 0, tracker := { q.tracker with window := .timing capture 0 } }
        else scored.withPort k { q with goodRun := if c = .good then p.goodRun + 1 else 0 }
      else
        let frame := if c = .good then samples else p.lastFrame
        windowComplete k (scored.withPort k { q with
          rings := Vector.ofFn fun t => p.rings[t].set (p.written.toNat % 64) frame[t] (Nat.mod_lt _ (by decide)),
          written := p.written + 1, lastFrame := frame,
          conceals := if c = .good then p.conceals else min (p.conceals + 1) 4294967295,
          tracker := { p.tracker with window :=
            match p.tracker.window with
            | .idle => .idle
            | .waiting => .timing capture 0
            | .timing start count => .timing start (count + 1) } })

/-- FRAME_TIMEOUT: a port in SEEDING or LOCKED whose last arrival lies ceil(4 × 256 × Fh / Fin) house ticks back or
more returns to HUNT, counts a loss and raises Port Lost; before that, and in every other state, nothing happens (R22,
R26, R31). SEEDING_ENTRY acts at a port in HUNT whose 16th consecutive good frame has arrived (R23, R38), and at no
other (log entry 6). A timeout that is not due is the model's case, log entry 9. Where the house sample in progress is
over and its event not yet taken, a timeout that falls due at that event, at phase 0, is due as well, so that it can be
taken first (R64, R75). Where a house sample is made, by its own row or within another command, `timeoutsFirst` is the
state that it finds: none, some or all of the timeouts that fall due at it have been taken before it, in any order; the
others stay due and follow. Which are taken first is a free value, log entry 28. -/
def Obligations.TimeoutAndSeeding : Prop :=
  (∀ (k : Fin 6) (s : State),
    let p := s.ports[k]
    let timeout := (1024 * s.hcu.rate.hertz + p.rateCode.hertz - 1) / p.rateCode.hertz
    let due := ∃ c, p.lastCapture = some c ∧
      (timeout ≤ (s.hcu.tickCounter - c).toNat ∨
        (∃ e, s.hcu.sampleEnd = some e ∧ e ≤ s.hcu.now) ∧ timeout ≤ (256#32 * (s.hcu.count + 1) - c).toNat)
    ((p.state = .seeding ∨ p.state = .locked) → due →
      exec (.frameTimeout k) s = .next
        ((s.withPort k ({ p with losses := min (p.losses + 1) 65535 }.enter .hunt)).raise .portLost (1#64 <<< k.val))) ∧
    (p.state ≠ .seeding → p.state ≠ .locked → exec (.frameTimeout k) s = .next s) ∧
    (¬due → exec (.frameTimeout k) s = .next s)) ∧
  (∀ s : State,
    let falls (k : Fin 6) : Prop := (s.ports[k].state = .seeding ∨ s.ports[k].state = .locked) ∧
      ∃ c, s.ports[k].lastCapture = some c ∧
        (1024 * s.hcu.rate.hertz + s.ports[k].rateCode.hertz - 1) / s.ports[k].rateCode.hertz ≤
          (256#32 * (s.hcu.count + 1) - c).toNat
    let drawn := { s with draws := s.draws + 1 }
    let t := timeoutsFirst s
    t = { s with ports := t.ports, lanes := t.lanes, conditions := t.conditions, draws := t.draws } ∧
    ((∀ k, ¬falls k) → t = s) ∧
    ((∃ k, falls k) → t = drawn ∨ ∃ k, falls k ∧ t = timeoutsFirst
      ((drawn.withPort k ({ s.ports[k] with losses := min (s.ports[k].losses + 1) 65535 }.enter .hunt)).raise
        .portLost (1#64 <<< k.val)))) ∧
  ∀ (k : Fin 6) (capture : Word32) (s : State), s.ports[k].lastCapture = some capture →
    (s.ports[k].state = .hunt → s.ports[k].goodRun = 16 →
      exec (.seedingEntry k) s = .next { s with ports := s.ports.set k { s.ports[k] with
        state := .seeding, goodRun := 0, written := 0, rings := Vector.replicate 8 (Vector.replicate 64 0),
        lastFrame := Vector.replicate 8 0, tracker := { s.ports[k].tracker with window := .timing capture 0 } } }) ∧
    (s.ports[k].state ≠ .hunt ∨ s.ports[k].goodRun ≠ 16 → exec (.seedingEntry k) s = .next s)

/-- WINDOW_COMPLETE at a full window: S_meas is floor(2^(w+32) / elapsed); outside S0 ± floor(S0/256) the port returns
to HUNT with a rate fault and Rate raised (R27, R40, R41); else in SEEDING the steps are seeded, the read position
becomes W − target latency, and the port enters LOCKED with its fader's target OPEN (R28, R42, R47); in LOCKED the
filtered step moves one sixteenth of the way, the fill error corrects the applied step, and both windows share this
arrival (R43, R44, R45, R47). A window that is not full, or not open, does not complete, and neither does one of a port
in another state (R38, R39). S0 is floor(Fin × 2^24 / Fh), with the eight values of section 3.1 (R37). As a command of
its own: log entry 6; the row and the completion at an arrival are one operation, `windowComplete`. -/
def Obligations.WindowCompletes : Prop :=
  ((∀ (house : HouseRate) (rate : IngressRate), nominalStep house rate = rate.hertz * 2 ^ 24 / house.hertz) ∧
    (HouseRate.k48.hertz, HouseRate.k96.hertz) = (48000, 96000) ∧
    [IngressRate.r44100, .r48000, .r88200, .r96000].map IngressRate.hertz = [44100, 48000, 88200, 96000] ∧
    [IngressRate.r44100, .r48000, .r88200, .r96000].map (nominalStep .k48) =
      [15414067, 16777216, 30828134, 33554432] ∧
    [IngressRate.r44100, .r48000, .r88200, .r96000].map (nominalStep .k96) =
      [7707033, 8388608, 15414067, 16777216]) ∧
  (∀ (k : Fin 6) (s : State),
    exec (.windowComplete k) s = .next (windowComplete k s) ∧
    (s.ports[k].tracker.window = .idle ∨ s.ports[k].tracker.window = .waiting ∨
      s.ports[k].state ≠ .seeding ∧ s.ports[k].state ≠ .locked → exec (.windowComplete k) s = .next s)) ∧
  ∀ (k : Fin 6) (start capture : Word32) (count : Nat) (s : State),
    let p := s.ports[k]
    p.tracker.window = .timing start count → p.lastCapture = some capture →
    p.state = .seeding ∨ p.state = .locked →
    let elapsed := (capture - start).toNat
    let measured := if elapsed = 0 then 4294967295 else min (2 ^ (p.windowExp + 32) / elapsed) 4294967295
    let s0 := nominalStep s.hcu.rate p.rateCode
    let clamped (x : Int) : Nat := (max ((s0 - s0 / 512 : Nat) : Int) (min ((s0 + s0 / 512 : Nat) : Int) x)).toNat
    let filtered := ((p.tracker.sFilt : Int) + ((measured : Int) - p.tracker.sFilt).tdiv 16).toNat
    let error : Int := max (-16) (min 16 ((p.written - p.resampler.int).toInt - p.latency))
    if count ≠ 2 ^ p.windowExp then exec (.windowComplete k) s = .next s
    else if s0 / 256 < ((measured : Int) - s0).natAbs then
      exec (.windowComplete k) s = .next
        ((s.withPort k ({ p with
          tracker := { p.tracker with sMeas := measured }, rateFaults := min (p.rateFaults + 1) 65535 }.enter
            .hunt)).raise .rate (1#64 <<< k.val))
    else if p.state = .seeding then
      p.resampler.slipPending = false →
      exec (.windowComplete k) s = .next (s.withPort k { p with
        state := .locked, fader := p.fader.giveOpen,
        tracker := { window := .timing capture 0, sMeas := measured, sFilt := measured,
                     sApplied := clamped measured },
        resampler := { p.resampler with int := p.written - BitVec.ofNat 32 p.latency, frac := 0 } })
    else
      exec (.windowComplete k) s = .next (s.withPort k { p with
        tracker := { window := .timing capture 0, sMeas := measured, sFilt := filtered,
                     sApplied := clamped (filtered + 256 * error) } })

/-- ARRIVAL_AT_SHUT and ARRIVAL_AT_OPEN of a fader that has arrived (R77): a LOCKED port's pending soft slip completes
with Slip raised (R58, R66), any other port's held outputs become zero (R65), a lane's pending switch completes (R86);
a line's arrival, a port's or lane's with nothing pending, and every arrival at OPEN change nothing of themselves. As
commands of their own: log entry 6. -/
def Obligations.FaderArrivals : Prop :=
  ∀ s : State,
    (∀ k : Fin 6, s.ports[k].fader.state = .shut →
      let p := s.ports[k]
      if p.state ≠ .locked then
        exec (.arrivalAtShut (.port k)) s = .next { s with ports := s.ports.set k { p with
          resampler := { p.resampler with held := Vector.replicate 8 0 } } }
      else if p.resampler.slipPending = false then exec (.arrivalAtShut (.port k)) s = .next s
      else exec (.arrivalAtShut (.port k)) s = .next (State.raise .slip (1#64 <<< k.val)
        { s with ports := s.ports.set k { p with
          fader := ⟨.opening, 0⟩,
          resampler := { p.resampler with
            int := p.written - BitVec.ofNat 32 p.latency, frac := 0, slipPending := false,
            softSlips := min (p.resampler.softSlips + 1) 65535 } } })) ∧
    (∀ l : Fin 48, s.lanes[l].fader = ⟨.shut, 0⟩ →
      exec (.arrivalAtShut (.lane l)) s = .next (
        match s.lanes[l].pendingSwitch with
        | none => s
        | some w => { s with lanes := s.lanes.set l { s.lanes[l] with
            selection := some w, pendingSwitch := none,
            fader := if s.lanes[l].mute then ⟨.shut, 0⟩ else ⟨.opening, 0⟩ } })) ∧
    (∀ n : Fin 64, exec (.arrivalAtShut (.line n)) s = .next s) ∧
    ∀ f : FaderId, exec (.arrivalAtOpen f) s = .next s

/-- Port Setup, by the checks, the cases and the receiver rule of R32. That a Port Setup from HUNT to HUNT, or from OFF
to OFF, is no change of state for the receiver (R16) is the model's reading, log entry 26. -/
def Obligations.PortSetup : Prop :=
  ∀ (dest : Address) (port enable rate latency window : Byte) (s : State), Ready dest s →
    match firstRefusal [
      (s.op ≠ .config, .locked),
      (5 < port.toNat ∨ 1 < enable.toNat ∨ 3 < rate.toNat ∨ latency.toNat < 8 ∨ 48 < latency.toNat ∨
        window.toNat < 6 ∨ 12 < window.toNat, .range)] with
    | some status => exec (.portSetup dest port enable rate latency window) s = .next (s.replying 0x20 status [])
    | none => ∀ (k : Fin 6) (r : IngressRate), k.val = port.toNat →
      [IngressRate.r44100, .r48000, .r88200, .r96000][rate.toNat]? = some r →
      let p := s.ports[k]
      let q := { p with
        enable := enable == 1, rateCode := r, latency := latency.toNat, windowExp := window.toNat }
      let outcome :=
        if enable = 0 then { q.enter .off with score := 0, degraded := false }
        else if p.state = .barred then q
        else if p.state = .off then q.enter .hunt
        else if p.rateCode = r ∧ p.latency = latency.toNat ∧ p.windowExp = window.toNat then q
        else q.enter .hunt
      exec (.portSetup dest port enable rate latency window) s = .next
        ((s.withPort k (if outcome.state = p.state then outcome else
          { outcome with receiver := .search none })).replying 0x20 .done [])

/-- Port Accept stores the tag and the mask at once (R33); Port Revive takes a BARRED port to HUNT with score 0 and is
refused in every other state (R35). An index above 5 is out of range. -/
def Obligations.PortAcceptAndRevive : Prop :=
  ∀ (dest : Address) (port tag mask : Byte) (s : State), Ready dest s →
    (5 < port.toNat →
      exec (.portAccept dest port tag mask) s = .next (s.replying 0x21 .range []) ∧
      exec (.portRevive dest port) s = .next (s.replying 0x23 .range [])) ∧
    ∀ k : Fin 6, k.val = port.toNat →
      exec (.portAccept dest port tag mask) s = .next (State.replying 0x21 .done []
        { s with ports := s.ports.set k { s.ports[k] with acceptTag := tag, acceptMask := mask } }) ∧
      (s.ports[k].state ≠ .barred → exec (.portRevive dest port) s = .next (s.replying 0x23 .wrongstate [])) ∧
      (s.ports[k].state = .barred → exec (.portRevive dest port) s = .next (State.replying 0x23 .done []
        { s with ports := s.ports.set k ({ s.ports[k] with score := 0, degraded := false }.enter .hunt) }))

/-- Port Query answers the port's record in the six groups of section 13.4: 61 bytes, read when the request is taken
(R34, R67). The codes of ingress rates, port states and fader states are those of section 13.3. -/
def Obligations.PortQueryAnswers : Prop :=
  ([IngressRate.r44100, .r48000, .r88200, .r96000].map IngressRate.code = [0, 1, 2, 3] ∧
    [PortState.off, .hunt, .seeding, .locked, .barred].map PortState.code = [0, 1, 2, 3, 4] ∧
    [FaderState.opened, .closing, .shut, .opening].map FaderState.code = [0, 1, 2, 3]) ∧
  ∀ (dest : Address) (port : Byte) (s : State), Ready dest s →
    (5 < port.toNat → exec (.portQuery dest port) s = .next (s.replying 0x22 .range [])) ∧
    ∀ k : Fin 6, k.val = port.toNat →
      let p := s.ports[k]
      let r := p.resampler
      let locked := p.state == .locked
      let fill : Int := if locked then max (-32768) (min 32767 (p.written - r.int).toInt) else 0
      let content : List Byte :=
        [if p.enable then 1 else 0, p.rateCode.code, BitVec.ofNat 8 p.latency, BitVec.ofNat 8 p.windowExp,
          p.acceptTag, p.acceptMask] ++
        ([p.state.code, BitVec.ofNat 8 p.goodRun] ++ beBytes 2 p.score ++ [if p.degraded then 1 else 0] ++
          [BitVec.ofNat 8 (p.written.toNat % 64)] ++ beBytes 2 (BitVec.ofInt 16 fill).toNat) ++
        (beBytes 4 p.tracker.sFilt ++ beBytes 4 p.tracker.sApplied ++ beBytes 4 p.tracker.sMeas) ++
        [p.fader.state.code, BitVec.ofNat 8 p.fader.level] ++
        (beBytes 4 p.badChecks ++ beBytes 4 p.foreigns ++ beBytes 4 p.conceals ++ beBytes 2 p.losses ++
          beBytes 2 p.rateFaults) ++
        ([if locked then 1 else 0, if r.slipPending then 1 else 0] ++ beBytes 4 r.int.toNat ++ beBytes 3 r.frac ++
          beBytes 2 r.softSlips ++ beBytes 2 r.hardSlips ++ beBytes 4 r.overshoots)
      content.length = 61 ∧ exec (.portQuery dest port) s = .next (s.replying 0x22 .done content)

/-! ## Faders and lanes -/

/-- What a target does to a fader (R71, R72), what a step does (R73), and that levels scale toward zero, 64 exactly and
0 to silence (R74). -/
def Obligations.FaderMoves : Prop :=
  ∀ f : Fader, f.Law →
    f.giveShut = (if f.state = .opened then ⟨.closing, 64⟩
      else if f.state = .opening ∧ f.level = 0 then ⟨.shut, 0⟩
      else if f.state = .opening then ⟨.closing, f.level⟩ else f) ∧
    f.giveOpen = (if f.state = .shut then ⟨.opening, 0⟩
      else if f.state = .closing ∧ f.level = 64 then ⟨.opened, 64⟩
      else if f.state = .closing then ⟨.opening, f.level⟩ else f) ∧
    (f.state = .closing → f.step = if f.level = 1 then ⟨.shut, 0⟩ else ⟨.closing, f.level - 1⟩) ∧
    (f.state = .opening → f.step = if f.level = 63 then ⟨.opened, 64⟩ else ⟨.opening, f.level + 1⟩) ∧
    (f.state = .opened ∨ f.state = .shut → f.step = f) ∧
    f.giveShut.Law ∧ f.giveOpen.Law ∧ f.step.Law ∧
    ∀ x : Sample, InRange x → InRange (scale f.level x) ∧ (scale f.level x).natAbs ≤ x.natAbs ∧
      (scale f.level x).natAbs = x.natAbs * f.level / 64 ∧ (0 ≤ x → 0 ≤ scale f.level x) ∧
      (x ≤ 0 → scale f.level x ≤ 0) ∧ (f.state = .opened → scale f.level x = x) ∧
      (f.state = .shut → scale f.level x = 0)

/-- A lane gives its fader the target: OPEN when it is unmuted with a selection and no pending switch, else SHUT (R76,
R87). With the fader SHUT after that, a pending switch completes at once: it becomes the selection, and an unmuted
lane's fader goes to OPENING at 0 (R85, R86). -/
def Obligations.LaneRetarget : Prop :=
  ∀ l : Lane, l.fader.Law →
    let f := if l.mute = false ∧ l.selection ≠ none ∧ l.pendingSwitch = none then l.fader.giveOpen
      else l.fader.giveShut
    l.retarget =
      match l.pendingSwitch with
      | some w =>
        if f.state = .shut then { l with
          selection := some w, pendingSwitch := none, fader := if l.mute then ⟨.shut, 0⟩ else ⟨.opening, 0⟩ }
        else { l with fader := f }
      | none => { l with fader := f }

/-- The evaluation of lanes (R82, R83, R84, R88): the other binding is preferred when its port's rank is strictly
higher, or, in AUTO on the alternate, when the primary's is equal and at least 1. A preferred other binding is set
pending with Failover raised for the lane; a preferred selection cancels a pending switch; else the lane is as it was,
and so is a lane without an alternate. A change of ports at one event makes every lane bound to a port whose rank
changes evaluate once, with the ranks as the event leaves them, and no other lane (R30, R83); that a Clock Rate, which
changes several ports, is one such event is log entry 13. -/
def Obligations.LaneEvaluation : Prop :=
  (∀ (which : Fin 48 → Bool) (s : State),
    let rank (b : Binding) : Nat :=
      if s.ports[b.port].state ≠ .locked then 0 else if s.ports[b.port].degraded then 1 else 2
    let prefers (l : Lane) (p a : Binding) : Prop :=
      (l.selection = some .primary ∧ rank p < rank a) ∨ (l.selection = some .alternate ∧ rank a < rank p) ∨
      (l.selection = some .alternate ∧ l.mode = .auto ∧ rank p = rank a ∧ 1 ≤ rank p)
    let decides (n : Fin 48) : Prop :=
      which n = true ∧ s.lanes[n].pendingSwitch = none ∧
      ∃ p a, s.lanes[n].primary = some p ∧ s.lanes[n].alternate = some a ∧ prefers s.lanes[n] p a
    let t := evaluateLanes which s
    t = { s with lanes := t.lanes, conditions := t.conditions } ∧
    (∀ n : Fin 48,
      let l := s.lanes[n]
      (which n = false ∨ l.alternate = none ∨ l.primary = none ∨ l.selection = none → t.lanes[n] = l) ∧
      ∀ (p a : Binding) (sel : Which), which n = true → l.primary = some p → l.alternate = some a →
        l.selection = some sel →
        (prefers l p a → l.pendingSwitch = none →
          t.lanes[n] = { l with
            pendingSwitch := some (if sel = Which.primary then Which.alternate else Which.primary) }.retarget) ∧
        (prefers l p a → l.pendingSwitch ≠ none → t.lanes[n] = l) ∧
        (¬prefers l p a → l.pendingSwitch = none → t.lanes[n] = l) ∧
        (¬prefers l p a → l.pendingSwitch ≠ none →
          t.lanes[n] = { l with pendingSwitch := none }.retarget)) ∧
    (∀ i : Fin 12, i ≠ Cond.failover.index → t.conditions[i] = s.conditions[i]) ∧
    ((∀ n, ¬decides n) → t.conditions = s.conditions) ∧
    ∀ n, decides n →
      t.conditions[Cond.failover.index].latched = true ∧
      ∀ m : Fin 64, t.conditions[Cond.failover.index].detail.getLsbD m.val = true ↔
        s.conditions[Cond.failover.index].detail.getLsbD m.val = true ∨ ∃ d : Fin 48, d.val = m.val ∧ decides d) ∧
  (∀ (ports : Vector Port 6) (s : State),
    let rank (q : Port) : Nat := if q.state ≠ .locked then 0 else if q.degraded then 1 else 2
    let changed (k : Fin 6) : Prop := rank ports[k] ≠ rank s.ports[k]
    let bound (n : Fin 48) (k : Fin 6) : Prop :=
      (∃ b, s.lanes[n].primary = some b ∧ b.port = k) ∨ ∃ b, s.lanes[n].alternate = some b ∧ b.port = k
    ((∀ k, ¬changed k) → s.withPorts ports = { s with ports := ports }) ∧
    ((∃ k, changed k) → ∃ which : Fin 48 → Bool,
      (∀ n, which n = true ↔ ∃ k, changed k ∧ bound n k) ∧
      s.withPorts ports = evaluateLanes which { s with ports := ports })) ∧
  ∀ (k : Fin 6) (p : Port) (s : State),
    let rank (q : Port) : Nat := if q.state ≠ .locked then 0 else if q.degraded then 1 else 2
    let bound (n : Fin 48) : Bool :=
      s.lanes[n].primary.any (·.port = k) || s.lanes[n].alternate.any (·.port = k)
    s.withPort k p = s.withPorts (s.ports.set k p) ∧
    s.withPort k p =
      if rank p = rank s.ports[k] then { s with ports := s.ports.set k p }
      else evaluateLanes bound { s with ports := s.ports.set k p }

/-- Lane Bind, by the checks and effects of R89: the bindings and the mode are stored, the selection is the primary,
the pending switch none, the fader is given its target, and the lane evaluates. -/
def Obligations.LaneBind : Prop :=
  ∀ (dest : Address) (lane primary alternate mode : Byte) (s : State), Ready dest s →
    let bad (b : Byte) : Bool := b ≠ 0xFF ∧ (5 < b.toNat / 16 ∨ 7 < b.toNat % 16)
    match firstRefusal [
      (s.op ≠ .config, .locked),
      (47 < lane.toNat ∨ bad primary ∨ bad alternate ∨ 1 < mode.toNat, .range),
      (primary = 0xFF ∧ alternate ≠ 0xFF, .range),
      (alternate ≠ 0xFF ∧ alternate = primary, .range)] with
    | some status => exec (.laneBind dest lane primary alternate mode) s = .next (s.replying 0x30 status [])
    | none => ∀ (n : Fin 48) (p a : Option Binding), n.val = lane.toNat →
      let code (b : Option Binding) : Byte :=
        (b.map fun b => BitVec.ofNat 8 (16 * b.port.val + b.slot.val)).getD 0xFF
      code p = primary → code a = alternate →
      exec (.laneBind dest lane primary alternate mode) s = .next (State.replying 0x30 .done []
        (evaluateLanes (fun i => i = n) { s with lanes := s.lanes.set n { s.lanes[n] with
          primary := p, alternate := a, mode := if mode = 0 then .hold else .auto,
          selection := if p = none then none else some .primary, pendingSwitch := none,
          fader := if s.lanes[n].mute = false ∧ p ≠ none then s.lanes[n].fader.giveOpen
            else s.lanes[n].fader.giveShut } }))

/-- Lane Select, by the checks and cases of R90: Failover is not raised. Lane Mute stores the flag and gives the lane
fader its target (R91), also where it repeats a clear flag at a lane that a Restart has left SHUT, which it opens: log
entry 18. -/
def Obligations.LaneSelectAndMute : Prop :=
  (∀ (dest : Address) (lane choice : Byte) (s : State), Ready dest s →
    (47 < lane.toNat ∨ 1 < choice.toNat →
      exec (.laneSelect dest lane choice) s = .next (s.replying 0x31 .range [])) ∧
    ∀ (n : Fin 48) (w : Which), n.val = lane.toNat → choice = (if w = .primary then 0 else 1) →
      let l := s.lanes[n]
      let rank (b : Binding) : Nat :=
        if s.ports[b.port].state ≠ .locked then 0 else if s.ports[b.port].degraded then 1 else 2
      let chosen := if w = .primary then l.primary else l.alternate
      let other := if w = .primary then l.alternate else l.primary
      match chosen with
      | none => exec (.laneSelect dest lane choice) s = .next (s.replying 0x31 .wrongstate [])
      | some b =>
        if ∃ o, other = some o ∧ rank b < rank o then
          exec (.laneSelect dest lane choice) s = .next (s.replying 0x31 .wrongstate [])
        else if l.selection = some w then
          exec (.laneSelect dest lane choice) s = .next (State.replying 0x31 .done []
            { s with lanes := s.lanes.set n { l with pendingSwitch := none }.retarget })
        else if l.pendingSwitch = some w then
          exec (.laneSelect dest lane choice) s = .next (s.replying 0x31 .done [])
        else
          exec (.laneSelect dest lane choice) s = .next (State.replying 0x31 .done []
            { s with lanes := s.lanes.set n { l with pendingSwitch := some w }.retarget })) ∧
  ∀ (dest : Address) (lane flag : Byte) (s : State), Ready dest s →
    (47 < lane.toNat ∨ 1 < flag.toNat →
      exec (.laneMute dest lane flag) s = .next (s.replying 0x32 .range [])) ∧
    ∀ n : Fin 48, n.val = lane.toNat → flag.toNat ≤ 1 →
      exec (.laneMute dest lane flag) s = .next (State.replying 0x32 .done []
        { s with lanes := s.lanes.set n { s.lanes[n] with mute := flag == 1 }.retarget })

/-! ## Readbacks -/

/-- Clock Query, Lane Query and Line Query change nothing and answer the record of section 13.4, read when the request
is taken (R14, R92, R141). The house tick counter is 256 × count + phase, with the phase floor(65,536 × e / M), held at
255, and M the nominal holdover period in FREE and else the present one (R2); where M grows within a house sample the
formula is followed, log entry 24. The codes of house rates, regimes, clock sources and fader states are those of
section 13.3. -/
def Obligations.ClockLaneLineQueries : Prop :=
  ([HouseRate.k48, .k96].map HouseRate.code = [0, 1] ∧
    [Regime.free, .following, .holdover].map Regime.code = [0, 1, 2] ∧
    (sourceCode .internal = 0 ∧ sourceCode .wordclock = 1 ∧
      ∀ k : Fin 6, sourceCode (.port k) = BitVec.ofNat 8 (k.val + 2)) ∧
    [FaderState.opened, .closing, .shut, .opening].map FaderState.code = [0, 1, 2, 3]) ∧
  ∀ (dest : Address) (index : Byte) (s : State), Ready dest s →
    (let h := s.hcu
     let basis := if h.regime = .free then 256 * h.rate.nominal else h.holdover
     let ticks : Word32 := 256#32 * h.count + BitVec.ofNat 32 (min (65536 * (h.now - h.sampleStart) / basis) 255)
     h.tickCounter = ticks ∧
     exec (.clockQuery dest) s = .next (s.replying 0x12 .done (
       [h.rate.code, sourceCode h.requested, h.regime.code, sourceCode h.active,
         (h.candidate.map sourceCode).getD 0xFF] ++
       beBytes 2 h.goodCount ++ beBytes 4 h.holdover ++ beBytes 4 h.count.toNat ++
       beBytes 4 ticks.toNat))) ∧
    (47 < index.toNat → exec (.laneQuery dest index) s = .next (s.replying 0x33 .range [])) ∧
    (63 < index.toNat → exec (.lineQuery dest index) s = .next (s.replying 0x62 .range [])) ∧
    (∀ n : Fin 48, n.val = index.toNat →
      let l := s.lanes[n]
      let binding (b : Option Binding) : Byte :=
        (b.map fun b => BitVec.ofNat 8 (16 * b.port.val + b.slot.val)).getD 0xFF
      let which (w : Option Which) : Byte := if w = none then 0 else if w = some .primary then 1 else 2
      let rank (b : Option Binding) : Byte :=
        (b.map fun b =>
          if s.ports[b.port].state ≠ .locked then 0 else if s.ports[b.port].degraded then 1 else 2).getD 0xFF
      exec (.laneQuery dest index) s = .next (s.replying 0x33 .done [
        binding l.primary, binding l.alternate, if l.mode = .hold then 0 else 1, which l.selection,
        which l.pendingSwitch, if l.mute then 1 else 0, rank l.primary, rank l.alternate, l.fader.state.code,
        BitVec.ofNat 8 l.fader.level])) ∧
    (∀ n : Fin 64, n.val = index.toNat →
      let l := s.lines[n]
      exec (.lineQuery dest index) s = .next (s.replying 0x62 .done (
        [index] ++ beBytes 2 l.trim ++ beBytes 2 l.delay ++
        [if l.mute then 1 else 0, l.fader.state.code, BitVec.ofNat 8 l.fader.level] ++ beBytes 2 l.clips ++
        beBytes 4 ((List.finRange 64).map fun m => s.lines[m].delay).sum)))

/-- Route Query, Cue Query and Cue Survey change nothing and answer the records of section 13.4; a route entry carries
its ramp fields exactly while a cue is ACTIVE on the lane, and a slot the fields of its state (R101, R125, R126, R177).
The codes of outcomes are those of section 13.3. -/
def Obligations.RouteAndCueQueries : Prop :=
  [CueOutcome.completed, .cut, .aborted, .noroom].map CueOutcome.code = [0, 1, 2, 3] ∧
  ∀ (dest : Address) (index : Byte) (s : State), Ready dest s →
    (47 < index.toNat → exec (.routeQuery dest index) s = .next (s.replying 0x41 .range [])) ∧
    (31 < index.toNat → exec (.cueQuery dest index) s = .next (s.replying 0x53 .range [])) ∧
    (RouteLaw s → ∀ n : Fin 48, n.val = index.toNat →
      let active : Bool := ∃ i : Fin 32, s.cues[i].rampLane? = some n
      exec (.routeQuery dest index) s = .next (s.replying 0x41 .done (
        [index] ++ beBytes 2 ((List.finRange 48).map fun l => s.routes[l].length).sum ++
        [if active then 1 else 0, BitVec.ofNat 8 s.routes[n].length] ++
        s.routes[n].flatMap fun e =>
          [BitVec.ofNat 8 e.line.val] ++ beBytes 2 e.gain ++
          (e.ramp.map fun r => beBytes 2 r.start ++ beBytes 2 r.target ++ [if r.leaving then 1 else 0]).getD []))) ∧
    (∀ i : Fin 32, i.val = index.toNat →
      let cue (c : Cue) : List Byte :=
        [BitVec.ofNat 8 c.lane.val, BitVec.ofNat 8 c.priority] ++ beBytes 4 c.due.toNat ++ beBytes 2 c.ramp ++
        [BitVec.ofNat 8 c.targets.length] ++
        c.targets.flatMap fun p => [BitVec.ofNat 8 p.1.val] ++ beBytes 2 p.2
      exec (.cueQuery dest index) s = .next (s.replying 0x53 .done ([index] ++
        match s.cues[i] with
        | .free => [0]
        | .armed c => [1] ++ cue c
        | .active c k h _ => [2] ++ cue c ++ beBytes 2 k ++ beBytes 4 h.toNat
        | .spent c o late h => [3] ++ cue c ++ [o.code] ++ beBytes 2 late ++
          (h.map fun h => beBytes 4 h.toNat).getD []))) ∧
    exec (.cueSurvey dest) s = .next (s.replying 0x54 .done ((List.finRange 32).flatMap fun i =>
      match s.cues[i] with
      | .free => [0, 0xFF, 0xFF, 0, 0]
      | .armed c => [1, BitVec.ofNat 8 c.lane.val, 0xFF, 0, 0]
      | .active c _ _ _ => [2, BitVec.ofNat 8 c.lane.val, 0xFF, 0, 0]
      | .spent c o late _ => [3, BitVec.ofNat 8 c.lane.val, o.code] ++ beBytes 2 late))

/-! ## Route lists and cues -/

/-- Route Write, by the checks of R98 and the effects of R99: the lane's list becomes one entry per pair, in ascending
line order, every gain above 32,768 set to 32,768, which alone makes the reply ADJUSTED. -/
def Obligations.RouteWrite : Prop :=
  ∀ (dest : Address) (lane count : Byte) (pairs : List Pair) (s : State), Ready dest s →
    let used := ((List.finRange 48).map fun l => s.routes[l].length).sum
    match firstRefusal [
      (2 + 3 * pairs.length ≠ 2 + 3 * count.toNat, .malformed),
      (47 < lane.toNat, .range),
      (16 < count.toNat, .malformed),
      (∃ p ∈ pairs, 63 < p.1.toNat, .malformed),
      (¬(pairs.map (·.1)).Nodup, .malformed),
      (∃ (i : Fin 32) (n : Fin 48), n.val = lane.toNat ∧ s.cues[i].rampLane? = some n, .busy),
      (∃ n : Fin 48, n.val = lane.toNat ∧ 512 + s.routes[n].length < used + count.toNat, .nospace)] with
    | some status => exec (.routeWrite dest lane count pairs) s = .next (s.replying 0x40 status [])
    | none => ∀ n : Fin 48, n.val = lane.toNat → ∃ list : List RouteEntry,
      exec (.routeWrite dest lane count pairs) s = .next (State.replying 0x40
        (if ∃ p ∈ pairs, 32768 < p.2.toNat then .adjusted else .done) []
        { s with routes := s.routes.set n list }) ∧
      list.Pairwise (fun a b => a.line < b.line) ∧ list.length = pairs.length ∧
      ∀ e, e ∈ list ↔ ∃ p ∈ pairs, e.line.val = p.1.toNat ∧ e.gain = min p.2.toNat 32768 ∧ e.ramp = none

/-- Cue Load, by the checks of R110 and the effects of R111: the slot becomes ARMED with the corrected and sorted
target set; with the due-now flag the due time is the house sample counter. -/
def Obligations.CueLoad : Prop :=
  ∀ (dest : Address) (slot lane priority dueNow : Byte) (due : Word32) (ramp : Word16) (count : Byte)
    (pairs : List Pair) (s : State), Ready dest s →
    let command := Instr.cueLoad dest slot lane priority dueNow due ramp count pairs
    match firstRefusal [
      (11 + 3 * pairs.length ≠ 11 + 3 * count.toNat, .malformed),
      (31 < slot.toNat ∨ 47 < lane.toNat ∨ 1 < dueNow.toNat, .range),
      (16 < count.toNat, .malformed),
      (∃ p ∈ pairs, 63 < p.1.toNat, .malformed),
      (¬(pairs.map (·.1)).Nodup, .malformed),
      (∃ i : Fin 32, i.val = slot.toNat ∧ (s.cues[i].isArmed = true ∨ s.cues[i].rampLane? ≠ none), .busy)] with
    | some status => exec command s = .next (s.replying 0x50 status [])
    | none => ∀ (i : Fin 32) (n : Fin 48), i.val = slot.toNat → n.val = lane.toNat →
      ∃ targets : List (Fin 64 × Nat),
        exec command s = .next (State.replying 0x50
          (if ∃ p ∈ pairs, 32768 < p.2.toNat then .adjusted else .done) []
          { s with cues := s.cues.set i (.armed {
              lane := n, priority := priority.toNat, due := if dueNow = 1 then s.hcu.count else due,
              ramp := ramp.toNat, targets := targets }) }) ∧
        targets.Pairwise (fun a b => a.1 < b.1) ∧ targets.length = pairs.length ∧
        ∀ t, t ∈ targets ↔ ∃ p ∈ pairs, t.1.val = p.1.toNat ∧ t.2 = min p.2.toNat 32768

/-- CUE_ACTIVATION of a lane with no ACTIVE cue and no activation yet at the house sample to come, h: of the ARMED
slots that name the lane and are due, the one with the lowest priority value, and of these the lowest index, wins
(R112, R114) and records h and its lateness (R115). Its union with the list is installed and ramps if it has at most
16 entries and the pool has room (R116, R117); else the cue is cut to its target set if that fits; else it ends with
NOROOM (R118, R128). With none due, a cue ACTIVE, or the lane's one activation made, nothing happens. The lists and the
target sets must ascend (R95, R109), which the law of the route table, kept by every step, gives. As a command of its
own, and its mark in the state: log entries 6 and 12. -/
def Obligations.CueActivates : Prop :=
  ∀ (l : Fin 48) (s : State), Ascending s →
    let h := s.hcu.count
    let due (c : Cue) : Prop := (h - c.due).toNat < 2 ^ 31
    let waits (i : Fin 32) (c : Cue) : Prop := s.cues[i] = .armed c ∧ c.lane = l ∧ due c
    let used := ((List.finRange 48).map fun l => s.routes[l].length).sum
    let list := s.routes[l]
    ((∃ i : Fin 32, s.cues[i].rampLane? = some l) ∨ s.cueTaken[l] = true →
      exec (.cueActivation l) s = .next s) ∧
    ((∀ i c, ¬waits i c) → exec (.cueActivation l) s = .next s) ∧
    ∀ (i : Fin 32) (c : Cue), (∀ i : Fin 32, s.cues[i].rampLane? ≠ some l) → s.cueTaken[l] = false → waits i c →
      (∀ j d, waits j d → c.priority < d.priority ∨ c.priority = d.priority ∧ i ≤ j) →
      let late := min (h - c.due).toNat 65535
      let taken := { s with cueTaken := s.cueTaken.set l true }
      let added := (c.targets.filter fun p => !(list.any fun e => e.line = p.1)).length
      let ended (outcome : CueOutcome) (t : State) : Answer :=
        .next (State.raise .cueDone (1#64 <<< i.val) { t with cues := t.cues.set i (.spent c outcome late (some h)) })
      if list.length + added ≤ 16 ∧ used + added ≤ 512 then
        ∃ union : List RouteEntry,
          exec (.cueActivation l) s = .next { taken with
            routes := s.routes.set l union, cues := s.cues.set i (.active c 0 h late) } ∧
          union.Pairwise (fun a b => a.line < b.line) ∧ union.length = list.length + added ∧
          ∀ n : Fin 64,
            let old := (list.find? fun e => e.line = n).map (·.gain)
            let new := (c.targets.find? fun p => p.1 = n).map (·.2)
            union.find? (fun e => e.line = n) =
              if old = none ∧ new = none then none
              else some {
                line := n, gain := if c.ramp = 0 then new.getD 0 else old.getD 0,
                ramp := some { start := old.getD 0, target := new.getD 0, leaving := new.isNone } }
      else if used + c.targets.length ≤ 512 + list.length then
        exec (.cueActivation l) s = ended .cut { taken with
          routes := s.routes.set l (c.targets.map fun p => { line := p.1, gain := p.2, ramp := none }) }
      else exec (.cueActivation l) s = ended .noroom taken

/-- CUE_COMPLETION of an ACTIVE slot whose progress is N: the leaving entries are removed and the ramp fields dropped,
which leaves the target set; the slot is SPENT with outcome COMPLETED and Cue Done is raised (R120, R128). A slot that
is not ACTIVE, or has not reached N, does not complete. Cue Abort, by the states of R122, and Cue Abort All (R124): an
ARMED slot becomes SPENT with outcome ABORTED and no activation house sample, its lateness counted if it was due, and
Cue Done is raised. As a command of its own: log entry 6. That a slot is ARMED is `isArmed`, which other statements
name. -/
def Obligations.CueEnds : Prop :=
  (∀ slot : CueSlot, slot.isArmed = true ↔ ∃ c, slot = .armed c) ∧
  (∀ (i : Fin 32) (s : State), RouteLaw s →
    (∀ (c : Cue) (h : Word32) (late : Nat), s.cues[i] = .active c c.ramp h late →
      exec (.cueCompletion i) s = .next (State.raise .cueDone (1#64 <<< i.val) { s with
        routes := s.routes.set c.lane (c.targets.map fun p => { line := p.1, gain := p.2, ramp := none }),
        cues := s.cues.set i (.spent c .completed late (some h)) })) ∧
    (∀ (c : Cue) (k : Nat) (h : Word32) (late : Nat), s.cues[i] = .active c k h late → k ≠ c.ramp →
      exec (.cueCompletion i) s = .next s) ∧
    (s.cues[i].rampLane? = none → exec (.cueCompletion i) s = .next s)) ∧
  ∀ (dest : Address) (slot : Byte) (s : State), Ready dest s →
    let now := s.hcu.count
    let aborted (c : Cue) : CueSlot :=
      .spent c .aborted (if (now - c.due).toNat < 2 ^ 31 then min (now - c.due).toNat 65535 else 0) none
    (31 < slot.toNat → exec (.cueAbort dest slot) s = .next (s.replying 0x51 .range [])) ∧
    (∀ i : Fin 32, i.val = slot.toNat →
      exec (.cueAbort dest slot) s = .next (
        match s.cues[i] with
        | .armed c => (State.raise .cueDone (1#64 <<< i.val)
            { s with cues := s.cues.set i (aborted c) }).replying 0x51 .done [0]
        | .active _ _ _ _ => s.replying 0x51 .done [1]
        | .free => s.replying 0x51 .wrongstate []
        | .spent _ _ _ _ => s.replying 0x51 .wrongstate [])) ∧
    ∃ (t : State) (n : Nat), exec (.cueAbortAll dest) s = .next (t.replying 0x52 .done [BitVec.ofNat 8 n]) ∧
      n = ((List.finRange 32).filter fun i => s.cues[i].isArmed).length ∧
      t = { s with cues := t.cues, conditions := t.conditions } ∧
      (∀ i : Fin 32, t.cues[i] = match s.cues[i] with | .armed c => aborted c | other => other) ∧
      (∀ i : Fin 12, i ≠ Cond.cueDone.index → t.conditions[i] = s.conditions[i]) ∧
      (n = 0 → t.conditions = s.conditions) ∧
      (0 < n → t.conditions[Cond.cueDone.index].latched = true ∧
        ∀ b : Fin 64, t.conditions[Cond.cueDone.index].detail.getLsbD b.val = true ↔
          s.conditions[Cond.cueDone.index].detail.getLsbD b.val = true ∨
          ∃ i : Fin 32, i.val = b.val ∧ s.cues[i].isArmed = true)

/-! ## Speaker lines and the operating state -/

/-- Line Setup, by the checks of R138 and the effects of R139, R131 and R133. A delay equal to the present one passes
the LOCKED check in every operating state, and always passes the pool check (R138): with the lines' laws, such a
request is answered DONE, and so is a smaller delay in CONFIG. -/
def Obligations.LineSetup : Prop :=
  ∀ (dest : Address) (line : Byte) (trim delay : Word16) (s : State), Ready dest s →
    let total := ((List.finRange 64).map fun n => s.lines[n].delay).sum
    let set (n : Fin 64) : Answer := .next (State.replying 0x60 .done [] { s with
      lines := s.lines.set n { s.lines[n] with
        trim := trim.toNat, delay := delay.toNat,
        buffer := if delay.toNat = s.lines[n].delay then s.lines[n].buffer else List.replicate delay.toNat 0 } })
    (match firstRefusal [
        (63 < line.toNat, .range),
        (∃ n : Fin 64, n.val = line.toNat ∧ delay.toNat ≠ s.lines[n].delay ∧ s.op ≠ .config, .locked),
        (8191 < delay.toNat, .range),
        (∃ n : Fin 64, n.val = line.toNat ∧ 65536 + s.lines[n].delay < total + delay.toNat, .nospace)] with
      | some status => exec (.lineSetup dest line trim delay) s = .next (s.replying 0x60 status [])
      | none => ∀ n : Fin 64, n.val = line.toNat → exec (.lineSetup dest line trim delay) s = set n) ∧
    ∀ n : Fin 64, n.val = line.toNat → LineLaw s →
      (delay.toNat = s.lines[n].delay ∨ delay.toNat < s.lines[n].delay ∧ s.op = .config) →
      exec (.lineSetup dest line trim delay) s = set n

/-- Go and Halt act by the operating state (R144, R145). Line Mute stores the flag of one line, or of all 64 for index
255, and gives each its target: OPEN in STARTING or RUN when unmuted, else SHUT (R134, R140, R148). -/
def Obligations.GoHaltAndLineMute : Prop :=
  (∀ (dest : Address) (s : State), Ready dest s →
    exec (.go dest) s = .next (
      match s.op with
      | .config => State.replying 0x03 .done [] { s with
          op := .starting,
          lines := Vector.ofFn fun n => { s.lines[n] with
            fader := if s.lines[n].mute then s.lines[n].fader.giveShut else s.lines[n].fader.giveOpen } }
      | .starting => s.replying 0x03 .done []
      | .run => s.replying 0x03 .done []
      | .stopping => s.replying 0x03 .busy []) ∧
    exec (.halt dest) s = .next (State.replying 0x04 .done [] (
      if s.op = .starting ∨ s.op = .run then
        { s with
          op := .stopping,
          lines := Vector.ofFn fun n => { s.lines[n] with fader := s.lines[n].fader.giveShut } }
      else s))) ∧
  ∀ (dest : Address) (line flag : Byte) (s : State), Ready dest s →
    let muted (l : Line) : Line := { l with
      mute := flag == 1,
      fader := if (s.op = .starting ∨ s.op = .run) ∧ flag = 0 then l.fader.giveOpen else l.fader.giveShut }
    (1 < flag.toNat ∨ 63 < line.toNat ∧ line ≠ 255 →
      exec (.lineMute dest line flag) s = .next (s.replying 0x61 .range [])) ∧
    (flag.toNat ≤ 1 → line = 255 →
      exec (.lineMute dest line flag) s = .next (State.replying 0x61 .done []
        { s with lines := Vector.ofFn fun n => muted s.lines[n] })) ∧
    ∀ n : Fin 64, flag.toNat ≤ 1 → n.val = line.toNat →
      exec (.lineMute dest line flag) s = .next (State.replying 0x61 .done []
        { s with lines := s.lines.set n (muted s.lines[n]) })

/-! ## Conditions -/

/-- A raise latches its condition and adds its items to the detail, and changes nothing else (R154). ATTN is driven low
exactly when some latched, enabled condition outranks every condition in service (R156). The twelve conditions stand in
the order of section 11.1, rank 1 first. -/
def Obligations.RaiseAndAttention : Prop :=
  [Cond.clockLost, .portLost, .portBarred, .rate, .failover, .slip, .portWarn, .clip, .link, .cueDone, .stateReached,
    .clockFollow].map Cond.index = List.finRange 12 ∧
  (∀ (c : Cond) (items : BitVec 64) (s : State),
    s.raise c items = { s with conditions := s.conditions.set c.index { s.conditions[c.index] with
      latched := true, detail := s.conditions[c.index].detail ||| items } }) ∧
  ∀ v : Vector Condition 12, attnLow v = true ↔
    ∃ i : Fin 12, v[i].latched = true ∧ v[i].enabled = true ∧ ∀ j : Fin 12, v[j].inService = true → i < j

/-- Condition Take hands over and clears the highest-ranked condition that is latched and enabled, and puts its rank
in service; with none it answers NONE (R157). Condition Release removes the highest rank in service, or is refused
(R158). Condition Mask sets the enables, Condition Clear clears the named latches and details, both refusing a set
that names a rank outside 1 to 12 (R159, R160, R177); Condition Survey answers the three sets and the twelve details
(R161). -/
def Obligations.ConditionRequests : Prop :=
  (∀ (dest : Address) (s : State), Ready dest s →
    ((∀ i : Fin 12, s.conditions[i].latched = false ∨ s.conditions[i].enabled = false) →
      exec (.conditionTake dest) s = .next (s.replying 0x70 .done [0, 0, 0, 0, 0, 0, 0, 0, 0])) ∧
    (∀ i : Fin 12, s.conditions[i].latched = true → s.conditions[i].enabled = true →
      (∀ j : Fin 12, j < i → s.conditions[j].latched = false ∨ s.conditions[j].enabled = false) →
      exec (.conditionTake dest) s = .next (State.replying 0x70 .done
        (BitVec.ofNat 8 (i.val + 1) :: beBytes 8 s.conditions[i].detail.toNat)
        { s with conditions := s.conditions.set i (
            { latched := false, detail := 0, enabled := true, inService := true } : Condition) })) ∧
    ((∀ i : Fin 12, s.conditions[i].inService = false) →
      exec (.conditionRelease dest) s = .next (s.replying 0x71 .wrongstate [])) ∧
    (∀ i : Fin 12, s.conditions[i].inService = true → (∀ j : Fin 12, j < i → s.conditions[j].inService = false) →
      exec (.conditionRelease dest) s = .next (State.replying 0x71 .done [BitVec.ofNat 8 (i.val + 1)]
        { s with conditions := s.conditions.set i { s.conditions[i] with inService := false } }))) ∧
  ∀ (dest : Address) (set : Word16) (s : State), Ready dest s →
    let outside := set.getLsbD 0 || set.getLsbD 13 || set.getLsbD 14 || set.getLsbD 15
    let ranks (p : Condition → Bool) : List Byte :=
      beBytes 2 ((List.finRange 12).map fun i => if p s.conditions[i] then 2 ^ (i.val + 1) else 0).sum
    exec (.conditionMask dest set) s = .next (
      if outside then s.replying 0x72 .range []
      else State.replying 0x72 .done [] { s with conditions := Vector.ofFn fun i =>
        { s.conditions[i] with enabled := set.getLsbD (i.val + 1) } }) ∧
    exec (.conditionClear dest set) s = .next (
      if outside then s.replying 0x73 .range []
      else State.replying 0x73 .done [] { s with conditions := (Vector.ofFn fun i =>
        if set.getLsbD (i.val + 1) = true then { s.conditions[i] with latched := false, detail := 0 }
        else s.conditions[i]) }) ∧
    exec (.conditionSurvey dest) s = .next (s.replying 0x74 .done (
      ranks (·.latched) ++ ranks (·.enabled) ++ ranks (·.inService) ++
      (List.finRange 12).flatMap fun i => beBytes 8 s.conditions[i].detail.toNat))

/-! ## The control link -/

/-- Identify and Status change nothing and answer the fields of section 13.4; the queue fill of Status is the number of
requests waiting behind it, 0 to 3 for one that has waited in the queue itself; Counters Clear sets every counter of
the part to 0 and changes nothing else (R168, R169, R172, R173, R174). The codes of operating states, regimes, clock
sources and port states are those of section 13.3. -/
def Obligations.LinkRequests : Prop :=
  let report (s : State) (fill : Byte) : List Byte :=
    let h := s.hcu
    let ranks (p : Condition → Bool) : List Byte :=
      beBytes 2 ((List.finRange 12).map fun i => if p s.conditions[i] then 2 ^ (i.val + 1) else 0).sum
    [s.op.code, h.regime.code, sourceCode h.active, sourceCode h.requested,
      (h.candidate.map sourceCode).getD 0xFF] ++
    beBytes 2 h.goodCount ++ beBytes 4 h.count.toNat ++ (List.finRange 6).map (fun k => s.ports[k].state.code) ++
    ranks (·.latched) ++ ranks (·.inService) ++ [fill] ++
    beBytes 2 s.link.badChecks ++ beBytes 2 s.link.framings ++ beBytes 2 s.link.overflows
  ([OpState.config, .starting, .run, .stopping].map OpState.code = [0, 1, 2, 3] ∧
    [Regime.free, .following, .holdover].map Regime.code = [0, 1, 2] ∧
    (sourceCode .internal = 0 ∧ sourceCode .wordclock = 1 ∧
      ∀ k : Fin 6, sourceCode (.port k) = BitVec.ofNat 8 (k.val + 2)) ∧
    [PortState.off, .hunt, .seeding, .locked, .barred].map PortState.code = [0, 1, 2, 3, 4]) ∧
  (∀ (dest : Address) (s : State), Ready dest s →
    exec (.identify dest) s = .next (s.replying 0x01 .done
      [0x48, 0x64, 0x01, s.link.address.zeroExtend 8, 6, 48, 64, 32, 0x02, 0x00]) ∧
    exec (.status dest) s = .next (s.replying 0x02 .done (report s 0)) ∧
    exec (.countersClear dest) s = .next (State.replying 0x06 .done [] { s with
      ports := Vector.ofFn fun k => { s.ports[k] with
        badChecks := 0, foreigns := 0, conceals := 0, losses := 0, rateFaults := 0,
        resampler := { s.ports[k].resampler with softSlips := 0, hardSlips := 0, overshoots := 0 } },
      lines := Vector.ofFn fun n => { s.lines[n] with clips := 0 },
      link := { s.link with badChecks := 0, framings := 0, overflows := 0 } })) ∧
  ∀ (s : State) (w : List Byte) (rest : List QueuedRequest), s.link.tx = some ⟨w, false⟩ →
    s.link.queue = { broadcast := false, request := .status } :: rest →
    exec .replyEnd s = .next (State.replying 0x02 .done (report s (BitVec.ofNat 8 rest.length))
      { s with link := { s.link with queue := rest } })

/-- The receiver, byte by byte (R164, R166). A framing error empties the buffer, is counted, raises Link with the
framing mark and returns the receiver to IDLE. ABORT is the two bytes 0xF6 0xF5 in every state, log entry 27: in
COLLECTING they withdraw the frame, which is not judged and not counted, and open a new one; in IDLE the 0xF6 is
discarded and the 0xF5 opens a frame; in ESCAPED the 0xF6 after an escape is a framing error, and from IDLE the 0xF5
opens a frame. FRAMING_ERROR is one that has arisen in COLLECTING or ESCAPED, and has no effect in IDLE, log entry
27. -/
def Obligations.ReceiverBytes : Prop :=
  ∀ (b : Byte) (stop : Bool) (s : State),
    let l := s.link
    let with' (l : Link) : Answer := .next { s with link := l }
    let faulted : Answer := .next (State.raise .link 2#64 { s with link := { l with
      rx := .idle, buffer := [], framings := min (l.framings + 1) 65535 } })
    let appended (d : Byte) : Answer :=
      if l.buffer.length + 1 < 246 then with' { l with rx := .collecting, buffer := l.buffer ++ [d] } else faulted
    exec (.requestPairByte b stop) s = (
      match l.rx with
      | .idle => if stop = true ∧ b = 0xF5 then with' { l with rx := .collecting, buffer := [] } else .next s
      | .collecting =>
        if stop = false then faulted
        else if b = 0xF5 then exec .controlFrameEnd s
        else if b = 0xF6 then with' { l with rx := .escaped }
        else appended b
      | .escaped =>
        if stop = false then faulted
        else if b = 0xFD then appended 0xF5
        else if b = 0xFE then appended 0xF6
        else if b = 0xF5 then with' { l with rx := .collecting, buffer := [] }
        else faulted) ∧
    (∃ t, exec (.requestPairByte 0xF6 true) s = .next t ∧ exec .abort s = exec (.requestPairByte 0xF5 true) t) ∧
    (let opened : Link := { l with rx := .collecting, buffer := [] }
     exec .abort s = match l.rx with
      | .idle => with' opened
      | .collecting => with' opened
      | .escaped => .next (State.raise .link 2#64
          { s with link := { opened with framings := min (l.framings + 1) 65535 } })) ∧
    exec .framingError s = (if l.rx = .idle then .next s else faulted)

/-- A frame that a delimiter ends in COLLECTING is judged, and the delimiter opens the next (R164): fewer than 5 bytes
are dropped; a failed check is counted and raises Link; a reply, or a request for another part, is ignored; a request
for this part or for all is offered to the queue (R165). In IDLE and in ESCAPED the row CONTROL_FRAME_END has no
effect, log entry 27. That the delimiter opens the next frame before the request is offered, so that a broadcast
Restart taken at once leaves the receiver IDLE, is the model's choice, log entry 29. -/
def Obligations.FrameJudged : Prop :=
  ∀ s : State,
    (s.link.rx ≠ .collecting → exec .controlFrameEnd s = .next s) ∧
    (s.link.rx = .collecting →
      let next := { s with link := { s.link with buffer := [] } }
      (s.link.buffer.length < 5 → exec .controlFrameEnd s = .next next) ∧
      ∀ (address kind length : Byte) (payload check : List Byte),
        s.link.buffer = address :: kind :: length :: payload ++ check → check.length = 2 →
        let dest : Address := address.setWidth 4
        exec .controlFrameEnd s = .next (
          if check ≠ beBytes 2 (crc16 (address :: kind :: length :: payload)).toNat then
            State.raise .link 1#64 { s with link := { s.link with
              buffer := [], badChecks := min (s.link.badChecks + 1) 65535 } }
          else if address.getLsbD 7 = true ∨ (dest ≠ s.link.address ∧ dest ≠ 15) then next
          else offer ⟨decide (dest = 15), readRequest kind length payload⟩ next))

/-- A request row, whatever its kind, at the queue (R163, R165, R168, R169): for another part it is ignored; while a
reply is being sent it joins the tail of a queue with room, and is dropped from a full one, counted, with Link raised;
a broadcast at an idle part, other than Restart, is taken at once and gets no reply; an addressed one at a part that is
`Ready` is taken at once, and its reply begins. REPLY_END of a reply that is not an addressed Restart's: the
transmitter is idle, and an addressed request at the head, if any, is taken and answered. A broadcast at the head is
taken there without a reply, and the next request waiting is taken at the same instant, as if the reply ended then
(R169); a broadcast Restart at the head executes, with the queue emptied (R152). An idle transmitter ends no reply.
That a request row is offered to the queue directly is the model's form, log entry 14; the offer is the operation
`offer`, which FrameJudged names for a frame. -/
def Obligations.RequestQueue : Prop :=
  (∀ (c : Instr) (dest : Address) (q : Request) (s : State), requested? c = some (dest, q) →
    (dest ≠ s.link.address → dest ≠ 15 → exec c s = .next s) ∧
    (dest = s.link.address ∨ dest = 15 → s.link.tx ≠ none → s.link.queue.length < 4 →
      exec c s = .next { s with link := { s.link with
        queue := s.link.queue ++ [{ broadcast := decide (dest = 15), request := q }] } }) ∧
    (dest = s.link.address ∨ dest = 15 → 4 ≤ s.link.queue.length →
      exec c s = .next (State.raise .link 4#64 { s with link := { s.link with
        overflows := min (s.link.overflows + 1) 65535 } })) ∧
    (dest = 15 → s.link.tx = none → s.link.queue = [] → q ≠ .restart →
      exec c s = .next (take q s).1 ∧ (take q s).1.link.tx = none) ∧
    (Ready dest s → q ≠ .restart →
      exec c s = .next ((take q s).1.replying (kindOf q) (take q s).2.status (take q s).2.content)) ∧
    (dest = s.link.address ∨ dest = 15 →
      exec c s = .next (offer { broadcast := decide (dest = 15), request := q } s))) ∧
  ∀ s : State,
    (s.link.tx = none → exec .replyEnd s = .next s) ∧
    ∀ w, s.link.tx = some ⟨w, false⟩ →
      (s.link.queue = [] → exec .replyEnd s = .next { s with link := { s.link with tx := none } }) ∧
      (∀ q rest, s.link.queue = { broadcast := false, request := q } :: rest →
        let answered := take q { s with link := { s.link with tx := none, queue := rest } }
        exec .replyEnd s = .next { answered.1 with link := { answered.1.link with
          tx := some ⟨wireOf (Reply.frame s.link.address (kindOf q) answered.2), q == .restart⟩ } }) ∧
      ∀ q rest, s.link.queue = { broadcast := true, request := q } :: rest →
        let left := { s with link := { s.link with tx := none, queue := rest } }
        (q ≠ .restart → (take q left).1.link.tx = none ∧ (take q left).1.link.queue = rest ∧
          exec .replyEnd s = exec .replyEnd { (take q left).1 with link := { (take q left).1.link with
            tx := some ⟨w, false⟩ } }) ∧
        (q = .restart →
          exec .replyEnd s = exec (.restart 15) { s with link := { s.link with tx := none, queue := [] } })

/-- The generic checks come first (R170). The kinds of the kind table are those of section 13.4. UNKNOWN_KIND, a
request of a kind that the kind table does not name: taken, it is answered UNKNOWN under its own kind byte and changes
nothing else; so is a frame of such a kind when its closing delimiter comes. A frame of a known kind whose length byte
disagrees with its payload, or whose payload has not a length that the kind allows, is answered MALFORMED under its
kind byte and changes nothing else; the lengths of Route Write and Cue Load go by their pair counts (R98, R110). A
frame that passes is the request of its kind with exactly the payload's fields, in the order of section 13.4. A refused
request changes nothing and is answered with its status alone (R169, R170). That UNKNOWN comes before MALFORMED is the
model's reading, log entry 2. -/
def Obligations.GenericChecks : Prop :=
  (∀ kind : Byte, kind ∈ kindTable ↔ kind ∈ fixedLengths.map Prod.fst ∨ kind = 0x40 ∨ kind = 0x50) ∧
  (∀ (dest : Address) (kind : Byte) (s : State), Ready dest s → kind ∉ kindTable →
    exec (.unknownKind dest kind) s = .next (s.replying kind .unknown [])) ∧
  (∀ (address kind length : Byte) (payload : List Byte) (s : State),
    s.link.rx = .collecting → Ready (address.setWidth 4) s → address.getLsbD 7 = false →
    let frame := address :: kind :: length :: payload
    s.link.buffer = frame ++ beBytes 2 (crc16 frame).toNat →
    let opened := { s with link := { s.link with buffer := [] } }
    (kind ∉ kindTable → exec .controlFrameEnd s = .next (opened.replying kind .unknown [])) ∧
    (kind ∈ kindTable → length.toNat ≠ payload.length ∨ ¬lengthAllowed kind payload →
      exec .controlFrameEnd s = .next (opened.replying kind .malformed []))) ∧
  (∀ (kind length : Byte) (payload : List Byte),
    let q := readRequest kind length payload
    (kind ∉ kindTable → q = .unknown kind) ∧
    (kind ∈ kindTable → length.toNat ≠ payload.length → q = .malformed kind) ∧
    (length.toNat = payload.length → lengthAllowed kind payload →
      kindOf q = kind ∧ payloadOf q = payload ∧ q ≠ .unknown kind ∧ q ≠ .malformed kind)) ∧
  ∀ (q : Request) (s : State), (take q s).2.status ≠ .done → (take q s).2.status ≠ .adjusted →
    take q s = (s, ⟨(take q s).2.status, []⟩)

/-! ## Frames on the wire -/

/-- The codes of the statuses (R170). A field of n bytes goes most significant byte first. The check is the CRC-16 of
generator x^16 + x^12 + x^5 + 1: the register starts at 0xFFFF and takes each byte most significant bit first (R167). A
reply's bytes: the address byte with bit 7 set, the request's kind, the length, the status, the content and the check,
high byte first; on the wire they last 5 µs a byte, with one byte more for each 0xF5 or 0xF6 and two delimiters (R163,
R164, R167, R169, R170). What the transmitter's stuffing puts on the wire the receiver reads back: the bytes of any
frame of up to 245 unstuffed bytes, between their delimiters, do to an IDLE receiver what CONTROL_FRAME_END does with
exactly that frame in the buffer; and no delimiter stands inside (R164, R165). -/
def Obligations.WireRoundTrip : Prop :=
  ([Status.done, .adjusted, .busy, .locked, .range, .nospace, .wrongstate, .malformed, .unknown].map Status.code =
      [0x00, 0x01, 0x10, 0x11, 0x12, 0x13, 0x14, 0x1E, 0x1F] ∧
    (∀ n v : Nat, (beBytes n v).length = n ∧
      ∀ i < n, (beBytes n v)[i]? = some (BitVec.ofNat 8 (v / 256 ^ (n - 1 - i)))) ∧
    crc16 [] = 0xFFFF ∧
    ∀ (bytes : List Byte) (b : Byte),
      let shift (r : BitVec 16) : BitVec 16 := if r.msb then (r <<< 1) ^^^ 0x1021 else r <<< 1
      crc16 (bytes ++ [b]) = shift^[8] (crc16 bytes ^^^ (b ++ 0#8 : BitVec 16))) ∧
  (∀ (address : Address) (kind : Byte) (r : Reply),
    let bytes : List Byte :=
      (0x80#8 + BitVec.ofNat 8 address.toNat) :: kind :: BitVec.ofNat 8 (1 + r.content.length) :: r.status.code ::
        r.content
    r.frame address kind =
      bytes ++ [BitVec.ofNat 8 ((crc16 bytes).toNat / 256), BitVec.ofNat 8 ((crc16 bytes).toNat % 256)] ∧
    ∀ restart, Transmission.duration ⟨wireOf (r.frame address kind), restart⟩ =
      5 * ((r.frame address kind).length +
        (r.frame address kind).countP (fun b => b = 0xF5 || b = 0xF6) + 2)) ∧
  ∀ (frame : List Byte) (s : State), s.link.rx = .idle → frame.length ≤ 245 →
    (let stuffed := frame.flatMap fun b => if b = 0xF5 then [0xF6, 0xFD] else if b = 0xF6 then [0xF6, 0xFE] else [b]
     wireOf frame = [0xF5] ++ stuffed ++ [0xF5] ∧ 0xF5 ∉ stuffed) ∧
    (wireOf frame).foldl
      (fun (o : Answer) b => match o with
        | .next t => exec (.requestPairByte b true) t
        | .fault f => .fault f
        | .refused r => .refused r)
      (.next s) =
    exec .controlFrameEnd { s with link := { s.link with rx := .collecting, buffer := frame } }

/-- A frame that an egress port sends is a frame to an ingress port: 29 bytes with the sync word first and a gap byte
last, whose 26-byte body is the tag, three bytes for each slot's sample and the check, is good exactly when its tag
matches, and carries the eight samples (R17, R135, R176). The check is the CRC-8 of generator x^8 + x^2 + x + 1: the
register starts at 0xFF and takes each byte most significant bit first (R17). What a receiver does with the bytes is in
FrameReceived. -/
def Obligations.EgressFrameIsReceived : Prop :=
  (crc8 [] = 0xFF ∧
    ∀ (bytes : List Byte) (b : Byte),
      let shift (r : BitVec 8) : BitVec 8 := if r.msb then (r <<< 1) ^^^ 0x07 else r <<< 1
      crc8 (bytes ++ [b]) = shift^[8] (crc8 bytes ^^^ b)) ∧
  ∀ (tag : Byte) (x : Frame) (p : Port), (∀ i : Fin 8, InRange x[i]) →
    let checked : List Byte := tag :: x.toList.flatMap fun v => beBytes 3 (BitVec.ofInt 24 v).toNat
    let body := checked ++ [crc8 checked]
    audioFrame tag x = [0xB3, 0x5C] ++ body ++ [0x00] ∧ body.length = 26 ∧ bodySamples body = x ∧
      p.classify body = if tag &&& p.acceptMask = p.acceptTag &&& p.acceptMask then .good else .foreign

/-! ## Rounding -/

/-- The roundings that the spec states: the interpolation rounds its rise to the nearest, an exact half upward, and at
f = 0 gives the frame itself (R61); the trim rounds likewise (R105); a ramp truncates toward its start, begins at it,
ends at its target and never leaves the two (R119); the filter moves one sixteenth of the way, not at all for a
difference of 15 or less (R43). -/
def Obligations.Roundings : Prop :=
  (∀ (xm x0 x1 x2 : Int) (f : Nat),
    let m := f * (x1 - xm) * 2 ^ 32 + f ^ 2 * (2 * xm - 5 * x0 + 4 * x1 - x2) * 2 ^ 16 +
      f ^ 3 * (-xm + 3 * x0 - 3 * x1 + x2)
    let y := interpolate xm x0 x1 x2 f
    2 ^ 49 * (y - x0) ≤ m + 2 ^ 48 ∧ m + 2 ^ 48 < 2 ^ 49 * (y - x0 + 1) ∧
    interpolate xm x0 x1 x2 0 = x0) ∧
  (∀ (acc : Int) (trim : Nat),
    2 ^ 30 * trimmed acc trim ≤ acc * trim + 2 ^ 29 ∧ acc * trim + 2 ^ 29 < 2 ^ 30 * (trimmed acc trim + 1) ∧
    trimmed acc 0 = 0) ∧
  (∀ start target k n : Nat, 0 < n → k ≤ n →
    rampGain start target 0 n = start ∧ rampGain start target n n = target ∧
    min start target ≤ rampGain start target k n ∧ rampGain start target k n ≤ max start target ∧
    (start ≤ target → rampGain start target k n = start + (target - start) * k / n) ∧
    (target ≤ start → rampGain start target k n = start - (start - target) * k / n)) ∧
  (∀ sFilt sMeas : Nat,
    (sFilt ≤ sMeas → filterStep sFilt sMeas = sFilt + (sMeas - sFilt) / 16) ∧
    (sMeas ≤ sFilt → filterStep sFilt sMeas = sFilt - (sFilt - sMeas) / 16))

/-! ## What every step keeps -/

/-- No command stops the part. The rules give each its effect where its cause is there; for a row whose cause the state
does not hold, or whose time has not come, the next state is the model's choice, log entries 6, 9 and 27. -/
def Obligations.EveryCommandAnswers : Prop := ∀ (c : Instr) (s : State), ∃ t, exec c s = .next t

/-- A frame arrival at a port that is no watched clock source touches that port, the lanes and the conditions, and
nothing else of the part (R17 to R31, R83). -/
def Obligations.ArrivalTouches : Prop :=
  ∀ (k : Fin 6) (bytes : List Byte) (s : State), s.hcu.watches (.port k) = false →
    ∃ t, exec (.frameArrival k bytes) s = .next t ∧
      t = { s with ports := t.ports, lanes := t.lanes, conditions := t.conditions } ∧
      (∀ j : Fin 6, j ≠ k → t.ports[j] = s.ports[j]) ∧
      ∀ n : Fin 48, (∀ b, s.lanes[n].primary = some b ∨ s.lanes[n].alternate = some b → b.port ≠ k) →
        t.lanes[n] = s.lanes[n]

/-- Right after a pin reset every law holds. -/
def Obligations.LawsAtReset : Prop :=
  FaderLaw State.reset ∧ PortLaw State.reset ∧ LaneLaw State.reset ∧ RouteLaw State.reset ∧ LineLaw State.reset ∧
  ClockLaw State.reset ∧ ConditionLaw State.reset ∧ LinkLaw State.reset ∧ SampleLaw State.reset

/-- Every step keeps the level law of the 118 faders (R70). -/
def Obligations.StepKeepsFaderLaw : Prop := ∀ s t : State, FaderLaw s → step s = .next t → FaderLaw t

/-- Every step keeps the laws of the ports, trackers and resamplers (R20, R21, R25, R38, R43, R45, R52, R65, R76). -/
def Obligations.StepKeepsPortLaw : Prop := ∀ s t : State, PortLaw s → step s = .next t → PortLaw t

/-- Every step keeps the relations of every lane record (R80). -/
def Obligations.StepKeepsLaneLaw : Prop := ∀ s t : State, LaneLaw s → step s = .next t → LaneLaw t

/-- Every step keeps the laws of the route lists, the pool and the cue slots (R94, R95, R96, R109, R117, R119). -/
def Obligations.StepKeepsRouteLaw : Prop := ∀ s t : State, RouteLaw s → step s = .next t → RouteLaw t

/-- Every step keeps the laws of the lines, the delay pool and the closed house of CONFIG (R130, R131, R134, R137). -/
def Obligations.StepKeepsLineLaw : Prop := ∀ s t : State, LineLaw s → step s = .next t → LineLaw t

/-- Every step keeps the laws of the house clock unit's record (R3, R5, R6, R7, R8). -/
def Obligations.StepKeepsClockLaw : Prop := ∀ s t : State, ClockLaw s → step s = .next t → ClockLaw t

/-- Every step keeps details empty under clear latches (R154), and the laws of the link interface (R163, R166, R168,
R169, R171). -/
def Obligations.StepKeepsLinkAndConditionLaws : Prop :=
  (∀ s t : State, ConditionLaw s → step s = .next t → ConditionLaw t) ∧
  ∀ s t : State, LinkLaw s → step s = .next t → LinkLaw t

/-- Every step keeps every stored sample in the sample range (R62, R106, R132). -/
def Obligations.StepKeepsSampleLaw : Prop := ∀ s t : State, SampleLaw s → step s = .next t → SampleLaw t
end

