-- ==== Sys2Proof/Laws/Banks.lean ====
section
/-! SUPPORT. The banks of like things: what one member reads after `modifyAt` and `mapAll`, and the indices of a bank. -/

namespace Sys2Proof.Machine

variable {α β : Type} {n : Nat}

@[simp] theorem getElem_modifyAt (v : Vector α n) (i : Fin n) (f : α → α) (j : Nat) (hj : j < n) :
    (modifyAt v i f)[j] = if i.val = j then f v[j] else v[j] := by
  simp only [modifyAt, Vector.getElem_set]; split <;> simp_all

@[simp] theorem getElem_mapAll (v : Vector α n) (f : α → β) (j : Nat) (hj : j < n) : (mapAll v f)[j] = f v[j] := by
  simp [mapAll]

@[simp] theorem mapAll_replicate (a : α) (f : α → β) : mapAll (Vector.replicate n a) f = Vector.replicate n (f a) := by
  ext i hi; simp [mapAll]

@[simp] theorem mem_indices (i : Fin n) : i ∈ indices n := List.mem_finRange i

/-- A condition after a raise: the raised one is latched with the items added, every other is as it was (R154). -/
theorem raise_conditions (s : State) (c : Cond) (items : BitVec 64) (i : Fin 12) :
    (s.raise c items).conditions[i] =
      if c.index = i then { s.conditions[i] with latched := true, detail := s.conditions[i].detail ||| items }
      else s.conditions[i] := by
  simp [State.raise, Condition.raise, Fin.ext_iff]

/-- The set of the items that `p` holds of has bit m exactly where `p` holds of item m. -/
theorem getLsbD_setBits {n : Nat} (p : Fin n → Bool) {m : Nat} (hm : m < 64) :
    (setBits p).getLsbD m = true ↔ ∃ i : Fin n, i.val = m ∧ p i = true := by
  have key : ∀ (l : List (Fin n)) (acc : BitVec 64),
      (l.foldl (fun acc i => if p i then acc ||| (1#64 <<< i.val) else acc) acc).getLsbD m = true ↔
        acc.getLsbD m = true ∨ ∃ i ∈ l, i.val = m ∧ p i = true := by
    intro l
    induction l with
    | nil => simp
    | cons a l ih =>
      intro acc
      rw [List.foldl_cons, ih]
      have bit : (1#64 <<< a.val).getLsbD m = true ↔ a.val = m := by
        simp only [BitVec.getLsbD_shiftLeft, BitVec.getLsbD_one]; simp [hm]; omega
      by_cases hp : p a = true
      · simp only [hp, if_true, BitVec.getLsbD_or, Bool.or_eq_true, bit, List.mem_cons, exists_eq_or_imp, and_true,
          or_assoc]
      · simp [hp]
  simp [setBits, key, indices]

end Sys2Proof.Machine
end

