-- ==== Sys2Proof/Laws/State.lean ====
section
/-! SUPPORT. One lemma per field of `State` for each named update: what the update sets the field to, or that it leaves
it alone; and what raising a set of items does. No later proof unfolds a record update. -/

namespace Sys2Proof.Machine

variable (s : State)

/-! ## `State.withHcu` -/

@[simp] theorem State.withHcu_hcu (h : Hcu) : (s.withHcu h).hcu = h := rfl
@[simp] theorem State.withHcu_ports (h : Hcu) : (s.withHcu h).ports = s.ports := rfl
@[simp] theorem State.withHcu_lanes (h : Hcu) : (s.withHcu h).lanes = s.lanes := rfl
@[simp] theorem State.withHcu_routes (h : Hcu) : (s.withHcu h).routes = s.routes := rfl
@[simp] theorem State.withHcu_cues (h : Hcu) : (s.withHcu h).cues = s.cues := rfl
@[simp] theorem State.withHcu_lines (h : Hcu) : (s.withHcu h).lines = s.lines := rfl
@[simp] theorem State.withHcu_egress (h : Hcu) : (s.withHcu h).egress = s.egress := rfl
@[simp] theorem State.withHcu_op (h : Hcu) : (s.withHcu h).op = s.op := rfl
@[simp] theorem State.withHcu_conditions (h : Hcu) : (s.withHcu h).conditions = s.conditions := rfl
@[simp] theorem State.withHcu_link (h : Hcu) : (s.withHcu h).link = s.link := rfl
@[simp] theorem State.withHcu_cueTaken (h : Hcu) : (s.withHcu h).cueTaken = s.cueTaken := rfl
@[simp] theorem State.withHcu_draws (h : Hcu) : (s.withHcu h).draws = s.draws := rfl
@[simp] theorem State.withHcu_pending (h : Hcu) : (s.withHcu h).pending = s.pending := rfl

/-! ## `State.withLane` -/

@[simp] theorem State.withLane_hcu (n : Fin 48) (l : Lane) : (s.withLane n l).hcu = s.hcu := rfl
@[simp] theorem State.withLane_ports (n : Fin 48) (l : Lane) : (s.withLane n l).ports = s.ports := rfl
@[simp] theorem State.withLane_lanes (n : Fin 48) (l : Lane) : (s.withLane n l).lanes = s.lanes.set n l := rfl
@[simp] theorem State.withLane_routes (n : Fin 48) (l : Lane) : (s.withLane n l).routes = s.routes := rfl
@[simp] theorem State.withLane_cues (n : Fin 48) (l : Lane) : (s.withLane n l).cues = s.cues := rfl
@[simp] theorem State.withLane_lines (n : Fin 48) (l : Lane) : (s.withLane n l).lines = s.lines := rfl
@[simp] theorem State.withLane_egress (n : Fin 48) (l : Lane) : (s.withLane n l).egress = s.egress := rfl
@[simp] theorem State.withLane_op (n : Fin 48) (l : Lane) : (s.withLane n l).op = s.op := rfl
@[simp] theorem State.withLane_conditions (n : Fin 48) (l : Lane) :
    (s.withLane n l).conditions = s.conditions := rfl
@[simp] theorem State.withLane_link (n : Fin 48) (l : Lane) : (s.withLane n l).link = s.link := rfl
@[simp] theorem State.withLane_cueTaken (n : Fin 48) (l : Lane) : (s.withLane n l).cueTaken = s.cueTaken := rfl
@[simp] theorem State.withLane_draws (n : Fin 48) (l : Lane) : (s.withLane n l).draws = s.draws := rfl
@[simp] theorem State.withLane_pending (n : Fin 48) (l : Lane) : (s.withLane n l).pending = s.pending := rfl

/-! ## `State.withRoutes` -/

@[simp] theorem State.withRoutes_hcu (n : Fin 48) (list : List RouteEntry) :
    (s.withRoutes n list).hcu = s.hcu := rfl
@[simp] theorem State.withRoutes_ports (n : Fin 48) (list : List RouteEntry) :
    (s.withRoutes n list).ports = s.ports := rfl
@[simp] theorem State.withRoutes_lanes (n : Fin 48) (list : List RouteEntry) :
    (s.withRoutes n list).lanes = s.lanes := rfl
@[simp] theorem State.withRoutes_routes (n : Fin 48) (list : List RouteEntry) :
    (s.withRoutes n list).routes = s.routes.set n list := rfl
@[simp] theorem State.withRoutes_cues (n : Fin 48) (list : List RouteEntry) :
    (s.withRoutes n list).cues = s.cues := rfl
@[simp] theorem State.withRoutes_lines (n : Fin 48) (list : List RouteEntry) :
    (s.withRoutes n list).lines = s.lines := rfl
@[simp] theorem State.withRoutes_egress (n : Fin 48) (list : List RouteEntry) :
    (s.withRoutes n list).egress = s.egress := rfl
@[simp] theorem State.withRoutes_op (n : Fin 48) (list : List RouteEntry) : (s.withRoutes n list).op = s.op := rfl
@[simp] theorem State.withRoutes_conditions (n : Fin 48) (list : List RouteEntry) :
    (s.withRoutes n list).conditions = s.conditions := rfl
@[simp] theorem State.withRoutes_link (n : Fin 48) (list : List RouteEntry) :
    (s.withRoutes n list).link = s.link := rfl
@[simp] theorem State.withRoutes_cueTaken (n : Fin 48) (list : List RouteEntry) :
    (s.withRoutes n list).cueTaken = s.cueTaken := rfl
@[simp] theorem State.withRoutes_draws (n : Fin 48) (list : List RouteEntry) :
    (s.withRoutes n list).draws = s.draws := rfl
@[simp] theorem State.withRoutes_pending (n : Fin 48) (list : List RouteEntry) :
    (s.withRoutes n list).pending = s.pending := rfl

/-! ## `State.withCue` -/

@[simp] theorem State.withCue_hcu (i : Fin 32) (c : CueSlot) : (s.withCue i c).hcu = s.hcu := rfl
@[simp] theorem State.withCue_ports (i : Fin 32) (c : CueSlot) : (s.withCue i c).ports = s.ports := rfl
@[simp] theorem State.withCue_lanes (i : Fin 32) (c : CueSlot) : (s.withCue i c).lanes = s.lanes := rfl
@[simp] theorem State.withCue_routes (i : Fin 32) (c : CueSlot) : (s.withCue i c).routes = s.routes := rfl
@[simp] theorem State.withCue_cues (i : Fin 32) (c : CueSlot) : (s.withCue i c).cues = s.cues.set i c := rfl
@[simp] theorem State.withCue_lines (i : Fin 32) (c : CueSlot) : (s.withCue i c).lines = s.lines := rfl
@[simp] theorem State.withCue_egress (i : Fin 32) (c : CueSlot) : (s.withCue i c).egress = s.egress := rfl
@[simp] theorem State.withCue_op (i : Fin 32) (c : CueSlot) : (s.withCue i c).op = s.op := rfl
@[simp] theorem State.withCue_conditions (i : Fin 32) (c : CueSlot) :
    (s.withCue i c).conditions = s.conditions := rfl
@[simp] theorem State.withCue_link (i : Fin 32) (c : CueSlot) : (s.withCue i c).link = s.link := rfl
@[simp] theorem State.withCue_cueTaken (i : Fin 32) (c : CueSlot) : (s.withCue i c).cueTaken = s.cueTaken := rfl
@[simp] theorem State.withCue_draws (i : Fin 32) (c : CueSlot) : (s.withCue i c).draws = s.draws := rfl
@[simp] theorem State.withCue_pending (i : Fin 32) (c : CueSlot) : (s.withCue i c).pending = s.pending := rfl

/-! ## `State.withLine` -/

@[simp] theorem State.withLine_hcu (n : Fin 64) (l : Line) : (s.withLine n l).hcu = s.hcu := rfl
@[simp] theorem State.withLine_ports (n : Fin 64) (l : Line) : (s.withLine n l).ports = s.ports := rfl
@[simp] theorem State.withLine_lanes (n : Fin 64) (l : Line) : (s.withLine n l).lanes = s.lanes := rfl
@[simp] theorem State.withLine_routes (n : Fin 64) (l : Line) : (s.withLine n l).routes = s.routes := rfl
@[simp] theorem State.withLine_cues (n : Fin 64) (l : Line) : (s.withLine n l).cues = s.cues := rfl
@[simp] theorem State.withLine_lines (n : Fin 64) (l : Line) : (s.withLine n l).lines = s.lines.set n l := rfl
@[simp] theorem State.withLine_egress (n : Fin 64) (l : Line) : (s.withLine n l).egress = s.egress := rfl
@[simp] theorem State.withLine_op (n : Fin 64) (l : Line) : (s.withLine n l).op = s.op := rfl
@[simp] theorem State.withLine_conditions (n : Fin 64) (l : Line) :
    (s.withLine n l).conditions = s.conditions := rfl
@[simp] theorem State.withLine_link (n : Fin 64) (l : Line) : (s.withLine n l).link = s.link := rfl
@[simp] theorem State.withLine_cueTaken (n : Fin 64) (l : Line) : (s.withLine n l).cueTaken = s.cueTaken := rfl
@[simp] theorem State.withLine_draws (n : Fin 64) (l : Line) : (s.withLine n l).draws = s.draws := rfl
@[simp] theorem State.withLine_pending (n : Fin 64) (l : Line) : (s.withLine n l).pending = s.pending := rfl

/-! ## `State.withOp` -/

@[simp] theorem State.withOp_hcu (o : OpState) : (s.withOp o).hcu = s.hcu := by simp only [State.withOp]
@[simp] theorem State.withOp_ports (o : OpState) : (s.withOp o).ports = s.ports := by simp only [State.withOp]
@[simp] theorem State.withOp_lanes (o : OpState) : (s.withOp o).lanes = s.lanes := by simp only [State.withOp]
@[simp] theorem State.withOp_routes (o : OpState) : (s.withOp o).routes = s.routes := by simp only [State.withOp]
@[simp] theorem State.withOp_cues (o : OpState) : (s.withOp o).cues = s.cues := by simp only [State.withOp]
@[simp] theorem State.withOp_lines (o : OpState) :
    (s.withOp o).lines = mapAll s.lines (Line.retarget o) := by simp only [State.withOp]
@[simp] theorem State.withOp_egress (o : OpState) : (s.withOp o).egress = s.egress := by simp only [State.withOp]
@[simp] theorem State.withOp_op (o : OpState) : (s.withOp o).op = o := by simp only [State.withOp]
@[simp] theorem State.withOp_conditions (o : OpState) :
    (s.withOp o).conditions = s.conditions := by simp only [State.withOp]
@[simp] theorem State.withOp_link (o : OpState) : (s.withOp o).link = s.link := by simp only [State.withOp]
@[simp] theorem State.withOp_cueTaken (o : OpState) :
    (s.withOp o).cueTaken = s.cueTaken := by simp only [State.withOp]
@[simp] theorem State.withOp_draws (o : OpState) : (s.withOp o).draws = s.draws := by simp only [State.withOp]
@[simp] theorem State.withOp_pending (o : OpState) : (s.withOp o).pending = s.pending := by simp only [State.withOp]

/-! ## `State.withLink` -/

@[simp] theorem State.withLink_hcu (l : Link) : (s.withLink l).hcu = s.hcu := rfl
@[simp] theorem State.withLink_ports (l : Link) : (s.withLink l).ports = s.ports := rfl
@[simp] theorem State.withLink_lanes (l : Link) : (s.withLink l).lanes = s.lanes := rfl
@[simp] theorem State.withLink_routes (l : Link) : (s.withLink l).routes = s.routes := rfl
@[simp] theorem State.withLink_cues (l : Link) : (s.withLink l).cues = s.cues := rfl
@[simp] theorem State.withLink_lines (l : Link) : (s.withLink l).lines = s.lines := rfl
@[simp] theorem State.withLink_egress (l : Link) : (s.withLink l).egress = s.egress := rfl
@[simp] theorem State.withLink_op (l : Link) : (s.withLink l).op = s.op := rfl
@[simp] theorem State.withLink_conditions (l : Link) : (s.withLink l).conditions = s.conditions := rfl
@[simp] theorem State.withLink_link (l : Link) : (s.withLink l).link = l := rfl
@[simp] theorem State.withLink_cueTaken (l : Link) : (s.withLink l).cueTaken = s.cueTaken := rfl
@[simp] theorem State.withLink_draws (l : Link) : (s.withLink l).draws = s.draws := rfl
@[simp] theorem State.withLink_pending (l : Link) : (s.withLink l).pending = s.pending := rfl

/-! ## `State.withReceiver` -/

@[simp] theorem State.withReceiver_hcu (k : Fin 6) (r : Receiver) : (s.withReceiver k r).hcu = s.hcu := rfl
@[simp] theorem State.withReceiver_ports (k : Fin 6) (r : Receiver) :
    (s.withReceiver k r).ports =
    s.ports.set k { s.ports[k] with receiver := r } := rfl
@[simp] theorem State.withReceiver_lanes (k : Fin 6) (r : Receiver) : (s.withReceiver k r).lanes = s.lanes := rfl
@[simp] theorem State.withReceiver_routes (k : Fin 6) (r : Receiver) : (s.withReceiver k r).routes = s.routes := rfl
@[simp] theorem State.withReceiver_cues (k : Fin 6) (r : Receiver) : (s.withReceiver k r).cues = s.cues := rfl
@[simp] theorem State.withReceiver_lines (k : Fin 6) (r : Receiver) : (s.withReceiver k r).lines = s.lines := rfl
@[simp] theorem State.withReceiver_egress (k : Fin 6) (r : Receiver) : (s.withReceiver k r).egress = s.egress := rfl
@[simp] theorem State.withReceiver_op (k : Fin 6) (r : Receiver) : (s.withReceiver k r).op = s.op := rfl
@[simp] theorem State.withReceiver_conditions (k : Fin 6) (r : Receiver) :
    (s.withReceiver k r).conditions = s.conditions := rfl
@[simp] theorem State.withReceiver_link (k : Fin 6) (r : Receiver) : (s.withReceiver k r).link = s.link := rfl
@[simp] theorem State.withReceiver_cueTaken (k : Fin 6) (r : Receiver) :
    (s.withReceiver k r).cueTaken = s.cueTaken := rfl
@[simp] theorem State.withReceiver_draws (k : Fin 6) (r : Receiver) : (s.withReceiver k r).draws = s.draws := rfl
@[simp] theorem State.withReceiver_pending (k : Fin 6) (r : Receiver) :
    (s.withReceiver k r).pending = s.pending := rfl

/-! ## `State.raise` -/

@[simp] theorem State.raise_hcu (c : Cond) (items : BitVec 64) : (s.raise c items).hcu = s.hcu := rfl
@[simp] theorem State.raise_ports (c : Cond) (items : BitVec 64) : (s.raise c items).ports = s.ports := rfl
@[simp] theorem State.raise_lanes (c : Cond) (items : BitVec 64) : (s.raise c items).lanes = s.lanes := rfl
@[simp] theorem State.raise_routes (c : Cond) (items : BitVec 64) : (s.raise c items).routes = s.routes := rfl
@[simp] theorem State.raise_cues (c : Cond) (items : BitVec 64) : (s.raise c items).cues = s.cues := rfl
@[simp] theorem State.raise_lines (c : Cond) (items : BitVec 64) : (s.raise c items).lines = s.lines := rfl
@[simp] theorem State.raise_egress (c : Cond) (items : BitVec 64) : (s.raise c items).egress = s.egress := rfl
@[simp] theorem State.raise_op (c : Cond) (items : BitVec 64) : (s.raise c items).op = s.op := rfl
@[simp] theorem State.raise_conditions (c : Cond) (items : BitVec 64) :
    (s.raise c items).conditions =
    modifyAt s.conditions c.index (Condition.raise items) := rfl
@[simp] theorem State.raise_link (c : Cond) (items : BitVec 64) : (s.raise c items).link = s.link := rfl
@[simp] theorem State.raise_cueTaken (c : Cond) (items : BitVec 64) : (s.raise c items).cueTaken = s.cueTaken := rfl
@[simp] theorem State.raise_draws (c : Cond) (items : BitVec 64) : (s.raise c items).draws = s.draws := rfl
@[simp] theorem State.raise_pending (c : Cond) (items : BitVec 64) : (s.raise c items).pending = s.pending := rfl

/-! ## `State.send` -/

@[simp] theorem State.send_hcu (t : Transmission) : (s.send t).hcu = s.hcu := rfl
@[simp] theorem State.send_ports (t : Transmission) : (s.send t).ports = s.ports := rfl
@[simp] theorem State.send_lanes (t : Transmission) : (s.send t).lanes = s.lanes := rfl
@[simp] theorem State.send_routes (t : Transmission) : (s.send t).routes = s.routes := rfl
@[simp] theorem State.send_cues (t : Transmission) : (s.send t).cues = s.cues := rfl
@[simp] theorem State.send_lines (t : Transmission) : (s.send t).lines = s.lines := rfl
@[simp] theorem State.send_egress (t : Transmission) : (s.send t).egress = s.egress := rfl
@[simp] theorem State.send_op (t : Transmission) : (s.send t).op = s.op := rfl
@[simp] theorem State.send_conditions (t : Transmission) : (s.send t).conditions = s.conditions := rfl
@[simp] theorem State.send_link (t : Transmission) : (s.send t).link = { s.link with tx := some t } := rfl
@[simp] theorem State.send_cueTaken (t : Transmission) : (s.send t).cueTaken = s.cueTaken := rfl
@[simp] theorem State.send_draws (t : Transmission) : (s.send t).draws = s.draws := rfl
@[simp] theorem State.send_pending (t : Transmission) : (s.send t).pending = s.pending := rfl

/-! ## `State.linkFault` -/

@[simp] theorem State.linkFault_hcu (l : Link) (mark : BitVec 64) : (s.linkFault l mark).hcu = s.hcu := rfl
@[simp] theorem State.linkFault_ports (l : Link) (mark : BitVec 64) : (s.linkFault l mark).ports = s.ports := rfl
@[simp] theorem State.linkFault_lanes (l : Link) (mark : BitVec 64) : (s.linkFault l mark).lanes = s.lanes := rfl
@[simp] theorem State.linkFault_routes (l : Link) (mark : BitVec 64) : (s.linkFault l mark).routes = s.routes := rfl
@[simp] theorem State.linkFault_cues (l : Link) (mark : BitVec 64) : (s.linkFault l mark).cues = s.cues := rfl
@[simp] theorem State.linkFault_lines (l : Link) (mark : BitVec 64) : (s.linkFault l mark).lines = s.lines := rfl
@[simp] theorem State.linkFault_egress (l : Link) (mark : BitVec 64) : (s.linkFault l mark).egress = s.egress := rfl
@[simp] theorem State.linkFault_op (l : Link) (mark : BitVec 64) : (s.linkFault l mark).op = s.op := rfl
@[simp] theorem State.linkFault_conditions (l : Link) (mark : BitVec 64) :
    (s.linkFault l mark).conditions =
    modifyAt s.conditions Cond.link.index (Condition.raise mark) := rfl
@[simp] theorem State.linkFault_link (l : Link) (mark : BitVec 64) : (s.linkFault l mark).link = l := rfl
@[simp] theorem State.linkFault_cueTaken (l : Link) (mark : BitVec 64) :
    (s.linkFault l mark).cueTaken = s.cueTaken := rfl
@[simp] theorem State.linkFault_draws (l : Link) (mark : BitVec 64) : (s.linkFault l mark).draws = s.draws := rfl
@[simp] theorem State.linkFault_pending (l : Link) (mark : BitVec 64) :
    (s.linkFault l mark).pending = s.pending := rfl

/-! ## `State.replying` -/

@[simp] theorem State.replying_hcu (kind : Byte) (status : Status) (content : List Byte) :
    (s.replying kind status content).hcu = s.hcu := rfl
@[simp] theorem State.replying_ports (kind : Byte) (status : Status) (content : List Byte) :
    (s.replying kind status content).ports = s.ports := rfl
@[simp] theorem State.replying_lanes (kind : Byte) (status : Status) (content : List Byte) :
    (s.replying kind status content).lanes = s.lanes := rfl
@[simp] theorem State.replying_routes (kind : Byte) (status : Status) (content : List Byte) :
    (s.replying kind status content).routes = s.routes := rfl
@[simp] theorem State.replying_cues (kind : Byte) (status : Status) (content : List Byte) :
    (s.replying kind status content).cues = s.cues := rfl
@[simp] theorem State.replying_lines (kind : Byte) (status : Status) (content : List Byte) :
    (s.replying kind status content).lines = s.lines := rfl
@[simp] theorem State.replying_egress (kind : Byte) (status : Status) (content : List Byte) :
    (s.replying kind status content).egress = s.egress := rfl
@[simp] theorem State.replying_op (kind : Byte) (status : Status) (content : List Byte) :
    (s.replying kind status content).op = s.op := rfl
@[simp] theorem State.replying_conditions (kind : Byte) (status : Status) (content : List Byte) :
    (s.replying kind status content).conditions = s.conditions := rfl
@[simp] theorem State.replying_link (kind : Byte) (status : Status) (content : List Byte) :
    (s.replying kind status content).link =
    { s.link with tx := some ⟨wireOf (Reply.frame s.link.address kind ⟨status, content⟩), false⟩ } :=
  rfl
@[simp] theorem State.replying_cueTaken (kind : Byte) (status : Status) (content : List Byte) :
    (s.replying kind status content).cueTaken = s.cueTaken := rfl
@[simp] theorem State.replying_draws (kind : Byte) (status : Status) (content : List Byte) :
    (s.replying kind status content).draws = s.draws := rfl
@[simp] theorem State.replying_pending (kind : Byte) (status : Status) (content : List Byte) :
    (s.replying kind status content).pending = s.pending := rfl

/-! ## `State.raiseIf` -/

@[simp] theorem State.raiseIf_hcu (on : Bool) (c : Cond) (items : BitVec 64) :
    (s.raiseIf on c items).hcu = s.hcu := by unfold State.raiseIf; split <;> rfl
@[simp] theorem State.raiseIf_ports (on : Bool) (c : Cond) (items : BitVec 64) :
    (s.raiseIf on c items).ports = s.ports := by unfold State.raiseIf; split <;> rfl
@[simp] theorem State.raiseIf_lanes (on : Bool) (c : Cond) (items : BitVec 64) :
    (s.raiseIf on c items).lanes = s.lanes := by unfold State.raiseIf; split <;> rfl
@[simp] theorem State.raiseIf_routes (on : Bool) (c : Cond) (items : BitVec 64) :
    (s.raiseIf on c items).routes = s.routes := by unfold State.raiseIf; split <;> rfl
@[simp] theorem State.raiseIf_cues (on : Bool) (c : Cond) (items : BitVec 64) :
    (s.raiseIf on c items).cues = s.cues := by unfold State.raiseIf; split <;> rfl
@[simp] theorem State.raiseIf_lines (on : Bool) (c : Cond) (items : BitVec 64) :
    (s.raiseIf on c items).lines = s.lines := by unfold State.raiseIf; split <;> rfl
@[simp] theorem State.raiseIf_egress (on : Bool) (c : Cond) (items : BitVec 64) :
    (s.raiseIf on c items).egress = s.egress := by unfold State.raiseIf; split <;> rfl
@[simp] theorem State.raiseIf_op (on : Bool) (c : Cond) (items : BitVec 64) :
    (s.raiseIf on c items).op = s.op := by unfold State.raiseIf; split <;> rfl
@[simp] theorem State.raiseIf_conditions (on : Bool) (c : Cond) (items : BitVec 64) :
    (s.raiseIf on c items).conditions =
    if on then modifyAt s.conditions c.index (Condition.raise items) else s.conditions :=
  by unfold State.raiseIf; split <;> rfl
@[simp] theorem State.raiseIf_link (on : Bool) (c : Cond) (items : BitVec 64) :
    (s.raiseIf on c items).link = s.link := by unfold State.raiseIf; split <;> rfl
@[simp] theorem State.raiseIf_cueTaken (on : Bool) (c : Cond) (items : BitVec 64) :
    (s.raiseIf on c items).cueTaken = s.cueTaken := by unfold State.raiseIf; split <;> rfl
@[simp] theorem State.raiseIf_draws (on : Bool) (c : Cond) (items : BitVec 64) :
    (s.raiseIf on c items).draws = s.draws := by unfold State.raiseIf; split <;> rfl
@[simp] theorem State.raiseIf_pending (on : Bool) (c : Cond) (items : BitVec 64) :
    (s.raiseIf on c items).pending = s.pending := by unfold State.raiseIf; split <;> rfl

/-! ## `State.raiseSet` -/

/-- Raising a set of items raises exactly them, and where the set is empty nothing (R154). -/
theorem State.raiseSet_raisedBy {n : Nat} (hn : n ≤ 64) (c : Cond) (p : Fin n → Bool) :
    Condition.RaisedBy (fun m => ∃ i : Fin n, i.val = m ∧ p i = true) s.conditions[c.index]
      (s.raiseSet c (setBits p)).conditions[c.index] := by
  have none_iff : setBits p = 0 ↔ ∀ i, p i = false := by
    constructor
    · intro h i
      have := getLsbD_setBits p (m := i.val) (by omega)
      rw [h] at this
      cases hpi : p i with
      | false => rfl
      | true => simpa using this.mpr ⟨i, rfl, hpi⟩
    · intro h
      apply BitVec.eq_of_getLsbD_eq
      intro m hm
      simpa [h] using getLsbD_setBits p hm
  by_cases h0 : setBits p = 0
  · have hp := none_iff.mp h0
    simp [State.raiseSet, State.raiseIf, h0, Condition.RaisedBy, hp]
  · have : ∃ m < 64, ∃ i : Fin n, i.val = m ∧ p i = true := by
      by_contra hne
      apply h0
      rw [none_iff]
      intro i
      cases hpi : p i with
      | false => rfl
      | true => exact absurd ⟨i.val, by omega, i, rfl, hpi⟩ hne
    have e : (s.raiseSet c (setBits p)).conditions[c.index] = { s.conditions[c.index] with
        latched := true, detail := s.conditions[c.index].detail ||| setBits p } := by
      rw [State.raiseSet, State.raiseIf, if_pos (by simpa using h0)]
      simp [State.raise, modifyAt, Condition.raise]
    rw [e]
    refine ⟨rfl, rfl, by simp [this], fun m hm => ?_⟩
    simp [getLsbD_setBits p hm]

@[simp] theorem State.raiseSet_hcu (c : Cond) (items : BitVec 64) :
    (s.raiseSet c items).hcu = s.hcu := by unfold State.raiseSet State.raiseIf; split <;> rfl
@[simp] theorem State.raiseSet_ports (c : Cond) (items : BitVec 64) :
    (s.raiseSet c items).ports = s.ports := by unfold State.raiseSet State.raiseIf; split <;> rfl
@[simp] theorem State.raiseSet_lanes (c : Cond) (items : BitVec 64) :
    (s.raiseSet c items).lanes = s.lanes := by unfold State.raiseSet State.raiseIf; split <;> rfl
@[simp] theorem State.raiseSet_routes (c : Cond) (items : BitVec 64) :
    (s.raiseSet c items).routes = s.routes := by unfold State.raiseSet State.raiseIf; split <;> rfl
@[simp] theorem State.raiseSet_cues (c : Cond) (items : BitVec 64) :
    (s.raiseSet c items).cues = s.cues := by unfold State.raiseSet State.raiseIf; split <;> rfl
@[simp] theorem State.raiseSet_lines (c : Cond) (items : BitVec 64) :
    (s.raiseSet c items).lines = s.lines := by unfold State.raiseSet State.raiseIf; split <;> rfl
@[simp] theorem State.raiseSet_egress (c : Cond) (items : BitVec 64) :
    (s.raiseSet c items).egress = s.egress := by unfold State.raiseSet State.raiseIf; split <;> rfl
@[simp] theorem State.raiseSet_op (c : Cond) (items : BitVec 64) :
    (s.raiseSet c items).op = s.op := by unfold State.raiseSet State.raiseIf; split <;> rfl
@[simp] theorem State.raiseSet_conditions (c : Cond) (items : BitVec 64) :
    (s.raiseSet c items).conditions =
    if items != 0 then modifyAt s.conditions c.index (Condition.raise items) else s.conditions :=
  by unfold State.raiseSet State.raiseIf; split <;> rfl
@[simp] theorem State.raiseSet_link (c : Cond) (items : BitVec 64) :
    (s.raiseSet c items).link = s.link := by unfold State.raiseSet State.raiseIf; split <;> rfl
@[simp] theorem State.raiseSet_cueTaken (c : Cond) (items : BitVec 64) :
    (s.raiseSet c items).cueTaken = s.cueTaken := by unfold State.raiseSet State.raiseIf; split <;> rfl
@[simp] theorem State.raiseSet_draws (c : Cond) (items : BitVec 64) :
    (s.raiseSet c items).draws = s.draws := by unfold State.raiseSet State.raiseIf; split <;> rfl
@[simp] theorem State.raiseSet_pending (c : Cond) (items : BitVec 64) :
    (s.raiseSet c items).pending = s.pending := by unfold State.raiseSet State.raiseIf; split <;> rfl

end Sys2Proof.Machine
end

