-- ==== Sys2Proof/Laws/Frames.lean ====
section
/-! SUPPORT. The frames of the shared operations: for each, the fields of `State` that it leaves alone. -/

namespace Sys2Proof.Machine

variable (s : State)

/-- A fold of updates that each leave `f` alone leaves it alone. -/
theorem foldl_frame {α β : Type} (f : State → β) (g : State → α → State) (hg : ∀ t a, f (g t a) = f t)
    (l : List α) (s : State) : f (l.foldl g s) = f s := by
  induction l generalizing s with
  | nil => rfl
  | cons a l ih => rw [List.foldl_cons, ih, hg]

/-! ## `evaluateLanes` -/

@[simp] theorem evaluateLanes_hcu (which : Fin 48 → Bool) :
    (evaluateLanes which s).hcu = s.hcu := by simp [evaluateLanes]
@[simp] theorem evaluateLanes_ports (which : Fin 48 → Bool) :
    (evaluateLanes which s).ports = s.ports := by simp [evaluateLanes]
@[simp] theorem evaluateLanes_routes (which : Fin 48 → Bool) :
    (evaluateLanes which s).routes = s.routes := by simp [evaluateLanes]
@[simp] theorem evaluateLanes_cues (which : Fin 48 → Bool) :
    (evaluateLanes which s).cues = s.cues := by simp [evaluateLanes]
@[simp] theorem evaluateLanes_lines (which : Fin 48 → Bool) :
    (evaluateLanes which s).lines = s.lines := by simp [evaluateLanes]
@[simp] theorem evaluateLanes_egress (which : Fin 48 → Bool) :
    (evaluateLanes which s).egress = s.egress := by simp [evaluateLanes]
@[simp] theorem evaluateLanes_op (which : Fin 48 → Bool) :
    (evaluateLanes which s).op = s.op := by simp [evaluateLanes]
@[simp] theorem evaluateLanes_link (which : Fin 48 → Bool) :
    (evaluateLanes which s).link = s.link := by simp [evaluateLanes]
@[simp] theorem evaluateLanes_cueTaken (which : Fin 48 → Bool) :
    (evaluateLanes which s).cueTaken = s.cueTaken := by simp [evaluateLanes]
@[simp] theorem evaluateLanes_draws (which : Fin 48 → Bool) :
    (evaluateLanes which s).draws = s.draws := by simp [evaluateLanes]
@[simp] theorem evaluateLanes_pending (which : Fin 48 → Bool) :
    (evaluateLanes which s).pending = s.pending := by simp [evaluateLanes]

/-! ## `State.withPorts` and `State.withPort` -/

@[simp] theorem State.withPorts_hcu (ports : Vector Port 6) : (s.withPorts ports).hcu = s.hcu := by
  simp only [State.withPorts]; split <;> simp
@[simp] theorem State.withPorts_ports (ports : Vector Port 6) : (s.withPorts ports).ports = ports := by
  simp only [State.withPorts]; split <;> simp
@[simp] theorem State.withPorts_routes (ports : Vector Port 6) : (s.withPorts ports).routes = s.routes := by
  simp only [State.withPorts]; split <;> simp
@[simp] theorem State.withPorts_cues (ports : Vector Port 6) : (s.withPorts ports).cues = s.cues := by
  simp only [State.withPorts]; split <;> simp
@[simp] theorem State.withPorts_lines (ports : Vector Port 6) : (s.withPorts ports).lines = s.lines := by
  simp only [State.withPorts]; split <;> simp
@[simp] theorem State.withPorts_egress (ports : Vector Port 6) : (s.withPorts ports).egress = s.egress := by
  simp only [State.withPorts]; split <;> simp
@[simp] theorem State.withPorts_op (ports : Vector Port 6) : (s.withPorts ports).op = s.op := by
  simp only [State.withPorts]; split <;> simp
@[simp] theorem State.withPorts_link (ports : Vector Port 6) : (s.withPorts ports).link = s.link := by
  simp only [State.withPorts]; split <;> simp
@[simp] theorem State.withPorts_cueTaken (ports : Vector Port 6) : (s.withPorts ports).cueTaken = s.cueTaken := by
  simp only [State.withPorts]; split <;> simp
@[simp] theorem State.withPorts_draws (ports : Vector Port 6) : (s.withPorts ports).draws = s.draws := by
  simp only [State.withPorts]; split <;> simp
@[simp] theorem State.withPorts_pending (ports : Vector Port 6) : (s.withPorts ports).pending = s.pending := by
  simp only [State.withPorts]; split <;> simp
@[simp] theorem State.withPort_hcu (k : Fin 6) (p : Port) : (s.withPort k p).hcu = s.hcu := by
  simp [State.withPort]
@[simp] theorem State.withPort_ports (k : Fin 6) (p : Port) : (s.withPort k p).ports = s.ports.set k p := by
  simp [State.withPort]
@[simp] theorem State.withPort_routes (k : Fin 6) (p : Port) : (s.withPort k p).routes = s.routes := by
  simp [State.withPort]
@[simp] theorem State.withPort_cues (k : Fin 6) (p : Port) : (s.withPort k p).cues = s.cues := by
  simp [State.withPort]
@[simp] theorem State.withPort_lines (k : Fin 6) (p : Port) : (s.withPort k p).lines = s.lines := by
  simp [State.withPort]
@[simp] theorem State.withPort_egress (k : Fin 6) (p : Port) : (s.withPort k p).egress = s.egress := by
  simp [State.withPort]
@[simp] theorem State.withPort_op (k : Fin 6) (p : Port) : (s.withPort k p).op = s.op := by
  simp [State.withPort]
@[simp] theorem State.withPort_link (k : Fin 6) (p : Port) : (s.withPort k p).link = s.link := by
  simp [State.withPort]
@[simp] theorem State.withPort_cueTaken (k : Fin 6) (p : Port) : (s.withPort k p).cueTaken = s.cueTaken := by
  simp [State.withPort]
@[simp] theorem State.withPort_draws (k : Fin 6) (p : Port) : (s.withPort k p).draws = s.draws := by
  simp [State.withPort]
@[simp] theorem State.withPort_pending (k : Fin 6) (p : Port) : (s.withPort k p).pending = s.pending := by
  simp [State.withPort]

/-! ## `seedingEntry` -/

@[simp] theorem seedingEntry_hcu (k : Fin 6) :
    (seedingEntry k s).hcu = s.hcu := by
  simp only [seedingEntry]; split <;> simp
@[simp] theorem seedingEntry_routes (k : Fin 6) :
    (seedingEntry k s).routes = s.routes := by
  simp only [seedingEntry]; split <;> simp
@[simp] theorem seedingEntry_cues (k : Fin 6) :
    (seedingEntry k s).cues = s.cues := by
  simp only [seedingEntry]; split <;> simp
@[simp] theorem seedingEntry_lines (k : Fin 6) :
    (seedingEntry k s).lines = s.lines := by
  simp only [seedingEntry]; split <;> simp
@[simp] theorem seedingEntry_egress (k : Fin 6) :
    (seedingEntry k s).egress = s.egress := by
  simp only [seedingEntry]; split <;> simp
@[simp] theorem seedingEntry_op (k : Fin 6) :
    (seedingEntry k s).op = s.op := by
  simp only [seedingEntry]; split <;> simp
@[simp] theorem seedingEntry_link (k : Fin 6) :
    (seedingEntry k s).link = s.link := by
  simp only [seedingEntry]; split <;> simp
@[simp] theorem seedingEntry_cueTaken (k : Fin 6) :
    (seedingEntry k s).cueTaken = s.cueTaken := by
  simp only [seedingEntry]; split <;> simp
@[simp] theorem seedingEntry_draws (k : Fin 6) :
    (seedingEntry k s).draws = s.draws := by
  simp only [seedingEntry]; split <;> simp
@[simp] theorem seedingEntry_pending (k : Fin 6) :
    (seedingEntry k s).pending = s.pending := by
  simp only [seedingEntry]; split <;> simp

/-! ## `windowComplete` -/

@[simp] theorem windowComplete_hcu (k : Fin 6) :
    (windowComplete k s).hcu = s.hcu := by
  simp only [windowComplete]; repeat' split
  all_goals simp
@[simp] theorem windowComplete_routes (k : Fin 6) :
    (windowComplete k s).routes = s.routes := by
  simp only [windowComplete]; repeat' split
  all_goals simp
@[simp] theorem windowComplete_cues (k : Fin 6) :
    (windowComplete k s).cues = s.cues := by
  simp only [windowComplete]; repeat' split
  all_goals simp
@[simp] theorem windowComplete_lines (k : Fin 6) :
    (windowComplete k s).lines = s.lines := by
  simp only [windowComplete]; repeat' split
  all_goals simp
@[simp] theorem windowComplete_egress (k : Fin 6) :
    (windowComplete k s).egress = s.egress := by
  simp only [windowComplete]; repeat' split
  all_goals simp
@[simp] theorem windowComplete_op (k : Fin 6) :
    (windowComplete k s).op = s.op := by
  simp only [windowComplete]; repeat' split
  all_goals simp
@[simp] theorem windowComplete_link (k : Fin 6) :
    (windowComplete k s).link = s.link := by
  simp only [windowComplete]; repeat' split
  all_goals simp
@[simp] theorem windowComplete_cueTaken (k : Fin 6) :
    (windowComplete k s).cueTaken = s.cueTaken := by
  simp only [windowComplete]; repeat' split
  all_goals simp
@[simp] theorem windowComplete_draws (k : Fin 6) :
    (windowComplete k s).draws = s.draws := by
  simp only [windowComplete]; repeat' split
  all_goals simp
@[simp] theorem windowComplete_pending (k : Fin 6) :
    (windowComplete k s).pending = s.pending := by
  simp only [windowComplete]; repeat' split
  all_goals simp

/-! ## `loss` and `frameTimeout` -/

@[simp] theorem loss_hcu (k : Fin 6) : (loss k s).hcu = s.hcu := by simp [loss]
@[simp] theorem loss_routes (k : Fin 6) : (loss k s).routes = s.routes := by simp [loss]
@[simp] theorem loss_cues (k : Fin 6) : (loss k s).cues = s.cues := by simp [loss]
@[simp] theorem loss_lines (k : Fin 6) : (loss k s).lines = s.lines := by simp [loss]
@[simp] theorem loss_egress (k : Fin 6) : (loss k s).egress = s.egress := by simp [loss]
@[simp] theorem loss_op (k : Fin 6) : (loss k s).op = s.op := by simp [loss]
@[simp] theorem loss_link (k : Fin 6) : (loss k s).link = s.link := by simp [loss]
@[simp] theorem loss_cueTaken (k : Fin 6) : (loss k s).cueTaken = s.cueTaken := by simp [loss]
@[simp] theorem loss_draws (k : Fin 6) : (loss k s).draws = s.draws := by simp [loss]
@[simp] theorem loss_pending (k : Fin 6) : (loss k s).pending = s.pending := by simp [loss]

@[simp] theorem frameTimeout_hcu (k : Fin 6) : (frameTimeout k s).hcu = s.hcu := by
  simp only [frameTimeout]; split <;> simp
@[simp] theorem frameTimeout_routes (k : Fin 6) : (frameTimeout k s).routes = s.routes := by
  simp only [frameTimeout]; split <;> simp
@[simp] theorem frameTimeout_cues (k : Fin 6) : (frameTimeout k s).cues = s.cues := by
  simp only [frameTimeout]; split <;> simp
@[simp] theorem frameTimeout_lines (k : Fin 6) : (frameTimeout k s).lines = s.lines := by
  simp only [frameTimeout]; split <;> simp
@[simp] theorem frameTimeout_egress (k : Fin 6) : (frameTimeout k s).egress = s.egress := by
  simp only [frameTimeout]; split <;> simp
@[simp] theorem frameTimeout_op (k : Fin 6) : (frameTimeout k s).op = s.op := by
  simp only [frameTimeout]; split <;> simp
@[simp] theorem frameTimeout_link (k : Fin 6) : (frameTimeout k s).link = s.link := by
  simp only [frameTimeout]; split <;> simp
@[simp] theorem frameTimeout_cueTaken (k : Fin 6) : (frameTimeout k s).cueTaken = s.cueTaken := by
  simp only [frameTimeout]; split <;> simp
@[simp] theorem frameTimeout_draws (k : Fin 6) : (frameTimeout k s).draws = s.draws := by
  simp only [frameTimeout]; split <;> simp
@[simp] theorem frameTimeout_pending (k : Fin 6) : (frameTimeout k s).pending = s.pending := by
  simp only [frameTimeout]; split <;> simp

/-! ## `arrivalAfterScore` -/

@[simp] theorem arrivalAfterScore_hcu (k : Fin 6) (capture : Word32) (c : FrameClass) (samples : Frame) :
    (arrivalAfterScore k capture c samples s).hcu = s.hcu := by
  simp only [arrivalAfterScore]; split <;> simp
@[simp] theorem arrivalAfterScore_routes (k : Fin 6) (capture : Word32) (c : FrameClass) (samples : Frame) :
    (arrivalAfterScore k capture c samples s).routes = s.routes := by
  simp only [arrivalAfterScore]; split <;> simp
@[simp] theorem arrivalAfterScore_cues (k : Fin 6) (capture : Word32) (c : FrameClass) (samples : Frame) :
    (arrivalAfterScore k capture c samples s).cues = s.cues := by
  simp only [arrivalAfterScore]; split <;> simp
@[simp] theorem arrivalAfterScore_lines (k : Fin 6) (capture : Word32) (c : FrameClass) (samples : Frame) :
    (arrivalAfterScore k capture c samples s).lines = s.lines := by
  simp only [arrivalAfterScore]; split <;> simp
@[simp] theorem arrivalAfterScore_egress (k : Fin 6) (capture : Word32) (c : FrameClass) (samples : Frame) :
    (arrivalAfterScore k capture c samples s).egress = s.egress := by
  simp only [arrivalAfterScore]; split <;> simp
@[simp] theorem arrivalAfterScore_op (k : Fin 6) (capture : Word32) (c : FrameClass) (samples : Frame) :
    (arrivalAfterScore k capture c samples s).op = s.op := by
  simp only [arrivalAfterScore]; split <;> simp
@[simp] theorem arrivalAfterScore_link (k : Fin 6) (capture : Word32) (c : FrameClass) (samples : Frame) :
    (arrivalAfterScore k capture c samples s).link = s.link := by
  simp only [arrivalAfterScore]; split <;> simp
@[simp] theorem arrivalAfterScore_cueTaken (k : Fin 6) (capture : Word32) (c : FrameClass) (samples : Frame) :
    (arrivalAfterScore k capture c samples s).cueTaken = s.cueTaken := by
  simp only [arrivalAfterScore]; split <;> simp
@[simp] theorem arrivalAfterScore_draws (k : Fin 6) (capture : Word32) (c : FrameClass) (samples : Frame) :
    (arrivalAfterScore k capture c samples s).draws = s.draws := by
  simp only [arrivalAfterScore]; split <;> simp
@[simp] theorem arrivalAfterScore_pending (k : Fin 6) (capture : Word32) (c : FrameClass) (samples : Frame) :
    (arrivalAfterScore k capture c samples s).pending = s.pending := by
  simp only [arrivalAfterScore]; split <;> simp

/-! ## `portArrival` -/

@[simp] theorem portArrival_hcu (k : Fin 6) (capture : Word32) (body : List Byte) :
    (portArrival k capture body s).hcu = s.hcu := by
  simp only [portArrival]; repeat' split
  all_goals simp
@[simp] theorem portArrival_routes (k : Fin 6) (capture : Word32) (body : List Byte) :
    (portArrival k capture body s).routes = s.routes := by
  simp only [portArrival]; repeat' split
  all_goals simp
@[simp] theorem portArrival_cues (k : Fin 6) (capture : Word32) (body : List Byte) :
    (portArrival k capture body s).cues = s.cues := by
  simp only [portArrival]; repeat' split
  all_goals simp
@[simp] theorem portArrival_lines (k : Fin 6) (capture : Word32) (body : List Byte) :
    (portArrival k capture body s).lines = s.lines := by
  simp only [portArrival]; repeat' split
  all_goals simp
@[simp] theorem portArrival_egress (k : Fin 6) (capture : Word32) (body : List Byte) :
    (portArrival k capture body s).egress = s.egress := by
  simp only [portArrival]; repeat' split
  all_goals simp
@[simp] theorem portArrival_op (k : Fin 6) (capture : Word32) (body : List Byte) :
    (portArrival k capture body s).op = s.op := by
  simp only [portArrival]; repeat' split
  all_goals simp
@[simp] theorem portArrival_link (k : Fin 6) (capture : Word32) (body : List Byte) :
    (portArrival k capture body s).link = s.link := by
  simp only [portArrival]; repeat' split
  all_goals simp
@[simp] theorem portArrival_cueTaken (k : Fin 6) (capture : Word32) (body : List Byte) :
    (portArrival k capture body s).cueTaken = s.cueTaken := by
  simp only [portArrival]; repeat' split
  all_goals simp
@[simp] theorem portArrival_draws (k : Fin 6) (capture : Word32) (body : List Byte) :
    (portArrival k capture body s).draws = s.draws := by
  simp only [portArrival]; repeat' split
  all_goals simp
@[simp] theorem portArrival_pending (k : Fin 6) (capture : Word32) (body : List Byte) :
    (portArrival k capture body s).pending = s.pending := by
  simp only [portArrival]; repeat' split
  all_goals simp

/-! ## `restartNotice` -/

@[simp] theorem restartNotice_hcu : (restartNotice s).hcu = s.hcu := by simp only [restartNotice]
@[simp] theorem restartNotice_lanes : (restartNotice s).lanes = s.lanes := by simp only [restartNotice]
@[simp] theorem restartNotice_routes : (restartNotice s).routes = s.routes := by simp only [restartNotice]
@[simp] theorem restartNotice_cues : (restartNotice s).cues = s.cues := by simp only [restartNotice]
@[simp] theorem restartNotice_lines : (restartNotice s).lines = s.lines := by simp only [restartNotice]
@[simp] theorem restartNotice_egress : (restartNotice s).egress = s.egress := by simp only [restartNotice]
@[simp] theorem restartNotice_op : (restartNotice s).op = s.op := by simp only [restartNotice]
@[simp] theorem restartNotice_conditions : (restartNotice s).conditions = s.conditions := by simp only [restartNotice]
@[simp] theorem restartNotice_link : (restartNotice s).link = s.link := by simp only [restartNotice]
@[simp] theorem restartNotice_cueTaken : (restartNotice s).cueTaken = s.cueTaken := by simp only [restartNotice]
@[simp] theorem restartNotice_draws : (restartNotice s).draws = s.draws := by simp only [restartNotice]
@[simp] theorem restartNotice_pending : (restartNotice s).pending = s.pending := by simp only [restartNotice]

/-! ## `portsStage` -/

@[simp] theorem portsStage_hcu : ((portsStage s).1).hcu = s.hcu := by simp [portsStage]
@[simp] theorem portsStage_lanes : ((portsStage s).1).lanes = s.lanes := by simp [portsStage]
@[simp] theorem portsStage_routes : ((portsStage s).1).routes = s.routes := by simp [portsStage]
@[simp] theorem portsStage_cues : ((portsStage s).1).cues = s.cues := by simp [portsStage]
@[simp] theorem portsStage_lines : ((portsStage s).1).lines = s.lines := by simp [portsStage]
@[simp] theorem portsStage_egress : ((portsStage s).1).egress = s.egress := by simp [portsStage]
@[simp] theorem portsStage_op : ((portsStage s).1).op = s.op := by simp [portsStage]
@[simp] theorem portsStage_link : ((portsStage s).1).link = s.link := by simp [portsStage]
@[simp] theorem portsStage_cueTaken : ((portsStage s).1).cueTaken = s.cueTaken := by simp [portsStage]
@[simp] theorem portsStage_draws : ((portsStage s).1).draws = s.draws := by simp [portsStage]
@[simp] theorem portsStage_pending : ((portsStage s).1).pending = s.pending := by simp [portsStage]

/-! ## `lanesStage` -/

@[simp] theorem lanesStage_hcu (outs : Vector Frame 6) :
    ((lanesStage outs s).1).hcu = s.hcu := by simp only [lanesStage]
@[simp] theorem lanesStage_ports (outs : Vector Frame 6) :
    ((lanesStage outs s).1).ports = s.ports := by simp only [lanesStage]
@[simp] theorem lanesStage_routes (outs : Vector Frame 6) :
    ((lanesStage outs s).1).routes = s.routes := by simp only [lanesStage]
@[simp] theorem lanesStage_cues (outs : Vector Frame 6) :
    ((lanesStage outs s).1).cues = s.cues := by simp only [lanesStage]
@[simp] theorem lanesStage_lines (outs : Vector Frame 6) :
    ((lanesStage outs s).1).lines = s.lines := by simp only [lanesStage]
@[simp] theorem lanesStage_egress (outs : Vector Frame 6) :
    ((lanesStage outs s).1).egress = s.egress := by simp only [lanesStage]
@[simp] theorem lanesStage_op (outs : Vector Frame 6) : ((lanesStage outs s).1).op = s.op := by simp only [lanesStage]
@[simp] theorem lanesStage_conditions (outs : Vector Frame 6) :
    ((lanesStage outs s).1).conditions = s.conditions := by simp only [lanesStage]
@[simp] theorem lanesStage_link (outs : Vector Frame 6) :
    ((lanesStage outs s).1).link = s.link := by simp only [lanesStage]
@[simp] theorem lanesStage_cueTaken (outs : Vector Frame 6) :
    ((lanesStage outs s).1).cueTaken = s.cueTaken := by simp only [lanesStage]
@[simp] theorem lanesStage_draws (outs : Vector Frame 6) :
    ((lanesStage outs s).1).draws = s.draws := by simp only [lanesStage]
@[simp] theorem lanesStage_pending (outs : Vector Frame 6) :
    ((lanesStage outs s).1).pending = s.pending := by simp only [lanesStage]

/-! ## `runWinner` -/

@[simp] theorem runWinner_hcu (i : Fin 32) (c : Cue) (h : Word32) :
    (runWinner i c h s).hcu = s.hcu := by
  simp only [runWinner]; repeat' split
  all_goals simp
@[simp] theorem runWinner_ports (i : Fin 32) (c : Cue) (h : Word32) :
    (runWinner i c h s).ports = s.ports := by
  simp only [runWinner]; repeat' split
  all_goals simp
@[simp] theorem runWinner_lanes (i : Fin 32) (c : Cue) (h : Word32) :
    (runWinner i c h s).lanes = s.lanes := by
  simp only [runWinner]; repeat' split
  all_goals simp
@[simp] theorem runWinner_lines (i : Fin 32) (c : Cue) (h : Word32) :
    (runWinner i c h s).lines = s.lines := by
  simp only [runWinner]; repeat' split
  all_goals simp
@[simp] theorem runWinner_egress (i : Fin 32) (c : Cue) (h : Word32) :
    (runWinner i c h s).egress = s.egress := by
  simp only [runWinner]; repeat' split
  all_goals simp
@[simp] theorem runWinner_op (i : Fin 32) (c : Cue) (h : Word32) :
    (runWinner i c h s).op = s.op := by
  simp only [runWinner]; repeat' split
  all_goals simp
@[simp] theorem runWinner_link (i : Fin 32) (c : Cue) (h : Word32) :
    (runWinner i c h s).link = s.link := by
  simp only [runWinner]; repeat' split
  all_goals simp
@[simp] theorem runWinner_cueTaken (i : Fin 32) (c : Cue) (h : Word32) :
    (runWinner i c h s).cueTaken = s.cueTaken := by
  simp only [runWinner]; repeat' split
  all_goals simp
@[simp] theorem runWinner_draws (i : Fin 32) (c : Cue) (h : Word32) :
    (runWinner i c h s).draws = s.draws := by
  simp only [runWinner]; repeat' split
  all_goals simp
@[simp] theorem runWinner_pending (i : Fin 32) (c : Cue) (h : Word32) :
    (runWinner i c h s).pending = s.pending := by
  simp only [runWinner]; repeat' split
  all_goals simp

/-! ## `activateLane` -/

@[simp] theorem activateLane_hcu (n : Fin 48) :
    (activateLane n s).hcu = s.hcu := by
  simp only [activateLane]; repeat' split
  all_goals simp
@[simp] theorem activateLane_ports (n : Fin 48) :
    (activateLane n s).ports = s.ports := by
  simp only [activateLane]; repeat' split
  all_goals simp
@[simp] theorem activateLane_lanes (n : Fin 48) :
    (activateLane n s).lanes = s.lanes := by
  simp only [activateLane]; repeat' split
  all_goals simp
@[simp] theorem activateLane_lines (n : Fin 48) :
    (activateLane n s).lines = s.lines := by
  simp only [activateLane]; repeat' split
  all_goals simp
@[simp] theorem activateLane_egress (n : Fin 48) :
    (activateLane n s).egress = s.egress := by
  simp only [activateLane]; repeat' split
  all_goals simp
@[simp] theorem activateLane_op (n : Fin 48) :
    (activateLane n s).op = s.op := by
  simp only [activateLane]; repeat' split
  all_goals simp
@[simp] theorem activateLane_link (n : Fin 48) :
    (activateLane n s).link = s.link := by
  simp only [activateLane]; repeat' split
  all_goals simp
@[simp] theorem activateLane_draws (n : Fin 48) :
    (activateLane n s).draws = s.draws := by
  simp only [activateLane]; repeat' split
  all_goals simp
@[simp] theorem activateLane_pending (n : Fin 48) :
    (activateLane n s).pending = s.pending := by
  simp only [activateLane]; repeat' split
  all_goals simp

/-! ## `rampStep` -/

@[simp] theorem rampStep_hcu (i : Fin 32) :
    (rampStep i s).hcu = s.hcu := by
  simp only [rampStep]; repeat' split
  all_goals simp
@[simp] theorem rampStep_ports (i : Fin 32) :
    (rampStep i s).ports = s.ports := by
  simp only [rampStep]; repeat' split
  all_goals simp
@[simp] theorem rampStep_lanes (i : Fin 32) :
    (rampStep i s).lanes = s.lanes := by
  simp only [rampStep]; repeat' split
  all_goals simp
@[simp] theorem rampStep_lines (i : Fin 32) :
    (rampStep i s).lines = s.lines := by
  simp only [rampStep]; repeat' split
  all_goals simp
@[simp] theorem rampStep_egress (i : Fin 32) :
    (rampStep i s).egress = s.egress := by
  simp only [rampStep]; repeat' split
  all_goals simp
@[simp] theorem rampStep_op (i : Fin 32) :
    (rampStep i s).op = s.op := by
  simp only [rampStep]; repeat' split
  all_goals simp
@[simp] theorem rampStep_conditions (i : Fin 32) :
    (rampStep i s).conditions = s.conditions := by
  simp only [rampStep]; repeat' split
  all_goals simp
@[simp] theorem rampStep_link (i : Fin 32) :
    (rampStep i s).link = s.link := by
  simp only [rampStep]; repeat' split
  all_goals simp
@[simp] theorem rampStep_cueTaken (i : Fin 32) :
    (rampStep i s).cueTaken = s.cueTaken := by
  simp only [rampStep]; repeat' split
  all_goals simp
@[simp] theorem rampStep_draws (i : Fin 32) :
    (rampStep i s).draws = s.draws := by
  simp only [rampStep]; repeat' split
  all_goals simp
@[simp] theorem rampStep_pending (i : Fin 32) :
    (rampStep i s).pending = s.pending := by
  simp only [rampStep]; repeat' split
  all_goals simp

/-! ## `completeCue` -/

@[simp] theorem completeCue_hcu (i : Fin 32) :
    (completeCue i s).hcu = s.hcu := by
  simp only [completeCue]; repeat' split
  all_goals simp
@[simp] theorem completeCue_ports (i : Fin 32) :
    (completeCue i s).ports = s.ports := by
  simp only [completeCue]; repeat' split
  all_goals simp
@[simp] theorem completeCue_lanes (i : Fin 32) :
    (completeCue i s).lanes = s.lanes := by
  simp only [completeCue]; repeat' split
  all_goals simp
@[simp] theorem completeCue_lines (i : Fin 32) :
    (completeCue i s).lines = s.lines := by
  simp only [completeCue]; repeat' split
  all_goals simp
@[simp] theorem completeCue_egress (i : Fin 32) :
    (completeCue i s).egress = s.egress := by
  simp only [completeCue]; repeat' split
  all_goals simp
@[simp] theorem completeCue_op (i : Fin 32) :
    (completeCue i s).op = s.op := by
  simp only [completeCue]; repeat' split
  all_goals simp
@[simp] theorem completeCue_link (i : Fin 32) :
    (completeCue i s).link = s.link := by
  simp only [completeCue]; repeat' split
  all_goals simp
@[simp] theorem completeCue_cueTaken (i : Fin 32) :
    (completeCue i s).cueTaken = s.cueTaken := by
  simp only [completeCue]; repeat' split
  all_goals simp
@[simp] theorem completeCue_draws (i : Fin 32) :
    (completeCue i s).draws = s.draws := by
  simp only [completeCue]; repeat' split
  all_goals simp
@[simp] theorem completeCue_pending (i : Fin 32) :
    (completeCue i s).pending = s.pending := by
  simp only [completeCue]; repeat' split
  all_goals simp

/-! ## `cueStage` -/

@[simp] theorem cueStage_hcu : (cueStage s).hcu = s.hcu := by
  simp only [cueStage]
  rw [foldl_frame (·.hcu) (fun t n => activateLane n t) (by simp) (indices 48),
    foldl_frame (·.hcu) (fun t i => rampStep i t) (by simp) (indices 32)]
@[simp] theorem cueStage_ports : (cueStage s).ports = s.ports := by
  simp only [cueStage]
  rw [foldl_frame (·.ports) (fun t n => activateLane n t) (by simp) (indices 48),
    foldl_frame (·.ports) (fun t i => rampStep i t) (by simp) (indices 32)]
@[simp] theorem cueStage_lanes : (cueStage s).lanes = s.lanes := by
  simp only [cueStage]
  rw [foldl_frame (·.lanes) (fun t n => activateLane n t) (by simp) (indices 48),
    foldl_frame (·.lanes) (fun t i => rampStep i t) (by simp) (indices 32)]
@[simp] theorem cueStage_lines : (cueStage s).lines = s.lines := by
  simp only [cueStage]
  rw [foldl_frame (·.lines) (fun t n => activateLane n t) (by simp) (indices 48),
    foldl_frame (·.lines) (fun t i => rampStep i t) (by simp) (indices 32)]
@[simp] theorem cueStage_egress : (cueStage s).egress = s.egress := by
  simp only [cueStage]
  rw [foldl_frame (·.egress) (fun t n => activateLane n t) (by simp) (indices 48),
    foldl_frame (·.egress) (fun t i => rampStep i t) (by simp) (indices 32)]
@[simp] theorem cueStage_op : (cueStage s).op = s.op := by
  simp only [cueStage]
  rw [foldl_frame (·.op) (fun t n => activateLane n t) (by simp) (indices 48),
    foldl_frame (·.op) (fun t i => rampStep i t) (by simp) (indices 32)]
@[simp] theorem cueStage_link : (cueStage s).link = s.link := by
  simp only [cueStage]
  rw [foldl_frame (·.link) (fun t n => activateLane n t) (by simp) (indices 48),
    foldl_frame (·.link) (fun t i => rampStep i t) (by simp) (indices 32)]
@[simp] theorem cueStage_draws : (cueStage s).draws = s.draws := by
  simp only [cueStage]
  rw [foldl_frame (·.draws) (fun t n => activateLane n t) (by simp) (indices 48),
    foldl_frame (·.draws) (fun t i => rampStep i t) (by simp) (indices 32)]
@[simp] theorem cueStage_pending : (cueStage s).pending = s.pending := by
  simp only [cueStage]
  rw [foldl_frame (·.pending) (fun t n => activateLane n t) (by simp) (indices 48),
    foldl_frame (·.pending) (fun t i => rampStep i t) (by simp) (indices 32)]

/-! ## `completionStage` -/

@[simp] theorem completionStage_hcu : (completionStage s).hcu = s.hcu := by
  simp only [completionStage]
  exact foldl_frame (·.hcu) (fun t i => completeCue i t) (by simp) (indices 32) s
@[simp] theorem completionStage_ports : (completionStage s).ports = s.ports := by
  simp only [completionStage]
  exact foldl_frame (·.ports) (fun t i => completeCue i t) (by simp) (indices 32) s
@[simp] theorem completionStage_lanes : (completionStage s).lanes = s.lanes := by
  simp only [completionStage]
  exact foldl_frame (·.lanes) (fun t i => completeCue i t) (by simp) (indices 32) s
@[simp] theorem completionStage_lines : (completionStage s).lines = s.lines := by
  simp only [completionStage]
  exact foldl_frame (·.lines) (fun t i => completeCue i t) (by simp) (indices 32) s
@[simp] theorem completionStage_egress : (completionStage s).egress = s.egress := by
  simp only [completionStage]
  exact foldl_frame (·.egress) (fun t i => completeCue i t) (by simp) (indices 32) s
@[simp] theorem completionStage_op : (completionStage s).op = s.op := by
  simp only [completionStage]
  exact foldl_frame (·.op) (fun t i => completeCue i t) (by simp) (indices 32) s
@[simp] theorem completionStage_link : (completionStage s).link = s.link := by
  simp only [completionStage]
  exact foldl_frame (·.link) (fun t i => completeCue i t) (by simp) (indices 32) s
@[simp] theorem completionStage_draws : (completionStage s).draws = s.draws := by
  simp only [completionStage]
  exact foldl_frame (·.draws) (fun t i => completeCue i t) (by simp) (indices 32) s
@[simp] theorem completionStage_pending : (completionStage s).pending = s.pending := by
  simp only [completionStage]
  exact foldl_frame (·.pending) (fun t i => completeCue i t) (by simp) (indices 32) s

/-! ## `mixStage` -/

@[simp] theorem mixStage_hcu (outs : Vector Sample 48) : ((mixStage outs s).1).hcu = s.hcu := by simp [mixStage]
@[simp] theorem mixStage_ports (outs : Vector Sample 48) : ((mixStage outs s).1).ports = s.ports := by simp [mixStage]
@[simp] theorem mixStage_lanes (outs : Vector Sample 48) : ((mixStage outs s).1).lanes = s.lanes := by simp [mixStage]
@[simp] theorem mixStage_routes (outs : Vector Sample 48) :
    ((mixStage outs s).1).routes = s.routes := by simp [mixStage]
@[simp] theorem mixStage_cues (outs : Vector Sample 48) : ((mixStage outs s).1).cues = s.cues := by simp [mixStage]
@[simp] theorem mixStage_egress (outs : Vector Sample 48) :
    ((mixStage outs s).1).egress = s.egress := by simp [mixStage]
@[simp] theorem mixStage_op (outs : Vector Sample 48) : ((mixStage outs s).1).op = s.op := by simp [mixStage]
@[simp] theorem mixStage_link (outs : Vector Sample 48) : ((mixStage outs s).1).link = s.link := by simp [mixStage]
@[simp] theorem mixStage_cueTaken (outs : Vector Sample 48) :
    ((mixStage outs s).1).cueTaken = s.cueTaken := by simp [mixStage]
@[simp] theorem mixStage_draws (outs : Vector Sample 48) : ((mixStage outs s).1).draws = s.draws := by simp [mixStage]
@[simp] theorem mixStage_pending (outs : Vector Sample 48) :
    ((mixStage outs s).1).pending = s.pending := by simp [mixStage]

/-! ## `lineStage` -/

@[simp] theorem lineStage_hcu (mix : Vector Sample 64) : ((lineStage mix s).1).hcu = s.hcu := by simp only [lineStage]
@[simp] theorem lineStage_ports (mix : Vector Sample 64) :
    ((lineStage mix s).1).ports = s.ports := by simp only [lineStage]
@[simp] theorem lineStage_lanes (mix : Vector Sample 64) :
    ((lineStage mix s).1).lanes = s.lanes := by simp only [lineStage]
@[simp] theorem lineStage_routes (mix : Vector Sample 64) :
    ((lineStage mix s).1).routes = s.routes := by simp only [lineStage]
@[simp] theorem lineStage_cues (mix : Vector Sample 64) :
    ((lineStage mix s).1).cues = s.cues := by simp only [lineStage]
@[simp] theorem lineStage_egress (mix : Vector Sample 64) :
    ((lineStage mix s).1).egress = s.egress := by simp only [lineStage]
@[simp] theorem lineStage_op (mix : Vector Sample 64) : ((lineStage mix s).1).op = s.op := by simp only [lineStage]
@[simp] theorem lineStage_conditions (mix : Vector Sample 64) :
    ((lineStage mix s).1).conditions = s.conditions := by simp only [lineStage]
@[simp] theorem lineStage_link (mix : Vector Sample 64) :
    ((lineStage mix s).1).link = s.link := by simp only [lineStage]
@[simp] theorem lineStage_cueTaken (mix : Vector Sample 64) :
    ((lineStage mix s).1).cueTaken = s.cueTaken := by simp only [lineStage]
@[simp] theorem lineStage_draws (mix : Vector Sample 64) :
    ((lineStage mix s).1).draws = s.draws := by simp only [lineStage]
@[simp] theorem lineStage_pending (mix : Vector Sample 64) :
    ((lineStage mix s).1).pending = s.pending := by simp only [lineStage]

/-! ## `runTest` -/

@[simp] theorem runTest_hcu : (runTest s).hcu = s.hcu := by
 simp only [runTest]; repeat' split
 all_goals simp
@[simp] theorem runTest_ports : (runTest s).ports = s.ports := by
 simp only [runTest]; repeat' split
 all_goals simp
@[simp] theorem runTest_lanes : (runTest s).lanes = s.lanes := by
 simp only [runTest]; repeat' split
 all_goals simp
@[simp] theorem runTest_routes : (runTest s).routes = s.routes := by
  simp only [runTest]; repeat' split
  all_goals simp
@[simp] theorem runTest_cues : (runTest s).cues = s.cues := by
 simp only [runTest]; repeat' split
 all_goals simp
@[simp] theorem runTest_lines : (runTest s).lines = s.lines := by
 simp only [runTest]; repeat' split
 all_goals simp
@[simp] theorem runTest_egress : (runTest s).egress = s.egress := by
  simp only [runTest]; repeat' split
  all_goals simp
@[simp] theorem runTest_link : (runTest s).link = s.link := by
 simp only [runTest]; repeat' split
 all_goals simp
@[simp] theorem runTest_cueTaken : (runTest s).cueTaken = s.cueTaken := by
  simp only [runTest]; repeat' split
  all_goals simp
@[simp] theorem runTest_draws : (runTest s).draws = s.draws := by
 simp only [runTest]; repeat' split
 all_goals simp
@[simp] theorem runTest_pending : (runTest s).pending = s.pending := by
  simp only [runTest]; repeat' split
  all_goals simp

/-! ## `egressStage` -/

@[simp] theorem egressStage_hcu (finals : Vector Sample 64) :
    (egressStage finals s).hcu = s.hcu := by simp only [egressStage]
@[simp] theorem egressStage_ports (finals : Vector Sample 64) :
    (egressStage finals s).ports = s.ports := by simp only [egressStage]
@[simp] theorem egressStage_lanes (finals : Vector Sample 64) :
    (egressStage finals s).lanes = s.lanes := by simp only [egressStage]
@[simp] theorem egressStage_routes (finals : Vector Sample 64) :
    (egressStage finals s).routes = s.routes := by simp only [egressStage]
@[simp] theorem egressStage_cues (finals : Vector Sample 64) :
    (egressStage finals s).cues = s.cues := by simp only [egressStage]
@[simp] theorem egressStage_lines (finals : Vector Sample 64) :
    (egressStage finals s).lines = s.lines := by simp only [egressStage]
@[simp] theorem egressStage_op (finals : Vector Sample 64) :
    (egressStage finals s).op = s.op := by simp only [egressStage]
@[simp] theorem egressStage_conditions (finals : Vector Sample 64) :
    (egressStage finals s).conditions = s.conditions := by simp only [egressStage]
@[simp] theorem egressStage_link (finals : Vector Sample 64) :
    (egressStage finals s).link = s.link := by simp only [egressStage]
@[simp] theorem egressStage_cueTaken (finals : Vector Sample 64) :
    (egressStage finals s).cueTaken = s.cueTaken := by simp only [egressStage]
@[simp] theorem egressStage_draws (finals : Vector Sample 64) :
    (egressStage finals s).draws = s.draws := by simp only [egressStage]
@[simp] theorem egressStage_pending (finals : Vector Sample 64) :
    (egressStage finals s).pending = s.pending := by simp only [egressStage]

/-! ## `signalPath` -/

@[simp] theorem signalPath_hcu : (signalPath s).hcu = s.hcu := by simp [signalPath]
@[simp] theorem signalPath_link : (signalPath s).link = s.link := by simp [signalPath]
@[simp] theorem signalPath_draws : (signalPath s).draws = s.draws := by simp [signalPath]
@[simp] theorem signalPath_pending : (signalPath s).pending = s.pending := by simp [signalPath]

/-! ## The line faders at a house sample -/

@[simp] theorem mixStage_fader (outs : Vector Sample 48) (n : Nat) (h : n < 64) :
    (mixStage outs s).1.lines[n].fader = s.lines[n].fader := by
  simp only [mixStage, State.raiseSet_lines, Vector.getElem_ofFn, Line.countClip]; split <;> rfl
@[simp] theorem lineStage_fader (mix : Vector Sample 64) (n : Nat) (h : n < 64) :
    (lineStage mix s).1.lines[n].fader = s.lines[n].fader.step := by
  simp [lineStage, Line.houseSample]

/-- Each line fader takes one step at a house sample (R73). -/
theorem houseSample_line_fader (n : Fin 64) : (houseSample s).lines[n].fader = s.lines[n].fader.step := by
  simp [houseSample, signalPath]

/-! ## The house sample event -/

@[simp] theorem houseSample_hcu : (houseSample s).hcu = s.hcu.boundary s.hcu.boundaryInstant := by simp [houseSample]
/-- A boundary begins a house sample at its own instant (R1). -/
theorem Hcu.boundary_instant (t : Nat) (h : Hcu) :
    (h.boundary t).now = t ∧ (h.boundary t).sampleStart = t := by
  unfold Hcu.boundary
  cases h.regime
  · exact ⟨rfl, rfl⟩
  · exact ⟨rfl, rfl⟩
  · cases h.holdBase <;> exact ⟨rfl, rfl⟩

/-- After a house sample event the tick counter stands at phase 0 (R2). -/
theorem houseSample_tickCounter : (houseSample s).hcu.tickCounter = 256#32 * (houseSample s).hcu.count := by
  rw [houseSample_hcu]
  unfold Hcu.tickCounter Hcu.phase
  rw [(Hcu.boundary_instant _ _).1, (Hcu.boundary_instant _ _).2, Nat.sub_self]; simp

/-! ## The timeouts before a house sample event, and its end -/

theorem lossesFirst_hcu (fuel : Nat) (s : State) : (lossesFirst fuel s).hcu = s.hcu := by
  induction fuel generalizing s with
  | zero => rfl
  | succ n ih => simp only [lossesFirst]; split <;> [rfl; (split <;> simp [ih])]
@[simp] theorem timeoutsFirst_hcu : (timeoutsFirst s).hcu = s.hcu := lossesFirst_hcu _ s
theorem lossesFirst_routes (fuel : Nat) (s : State) : (lossesFirst fuel s).routes = s.routes := by
  induction fuel generalizing s with
  | zero => rfl
  | succ n ih => simp only [lossesFirst]; split <;> [rfl; (split <;> simp [ih])]
@[simp] theorem timeoutsFirst_routes : (timeoutsFirst s).routes = s.routes := lossesFirst_routes _ s
theorem lossesFirst_cues (fuel : Nat) (s : State) : (lossesFirst fuel s).cues = s.cues := by
  induction fuel generalizing s with
  | zero => rfl
  | succ n ih => simp only [lossesFirst]; split <;> [rfl; (split <;> simp [ih])]
@[simp] theorem timeoutsFirst_cues : (timeoutsFirst s).cues = s.cues := lossesFirst_cues _ s
theorem lossesFirst_lines (fuel : Nat) (s : State) : (lossesFirst fuel s).lines = s.lines := by
  induction fuel generalizing s with
  | zero => rfl
  | succ n ih => simp only [lossesFirst]; split <;> [rfl; (split <;> simp [ih])]
@[simp] theorem timeoutsFirst_lines : (timeoutsFirst s).lines = s.lines := lossesFirst_lines _ s
theorem lossesFirst_egress (fuel : Nat) (s : State) : (lossesFirst fuel s).egress = s.egress := by
  induction fuel generalizing s with
  | zero => rfl
  | succ n ih => simp only [lossesFirst]; split <;> [rfl; (split <;> simp [ih])]
@[simp] theorem timeoutsFirst_egress : (timeoutsFirst s).egress = s.egress := lossesFirst_egress _ s
theorem lossesFirst_op (fuel : Nat) (s : State) : (lossesFirst fuel s).op = s.op := by
  induction fuel generalizing s with
  | zero => rfl
  | succ n ih => simp only [lossesFirst]; split <;> [rfl; (split <;> simp [ih])]
@[simp] theorem timeoutsFirst_op : (timeoutsFirst s).op = s.op := lossesFirst_op _ s
theorem lossesFirst_link (fuel : Nat) (s : State) : (lossesFirst fuel s).link = s.link := by
  induction fuel generalizing s with
  | zero => rfl
  | succ n ih => simp only [lossesFirst]; split <;> [rfl; (split <;> simp [ih])]
@[simp] theorem timeoutsFirst_link : (timeoutsFirst s).link = s.link := lossesFirst_link _ s
theorem lossesFirst_cueTaken (fuel : Nat) (s : State) : (lossesFirst fuel s).cueTaken = s.cueTaken := by
  induction fuel generalizing s with
  | zero => rfl
  | succ n ih => simp only [lossesFirst]; split <;> [rfl; (split <;> simp [ih])]
@[simp] theorem timeoutsFirst_cueTaken : (timeoutsFirst s).cueTaken = s.cueTaken := lossesFirst_cueTaken _ s
theorem lossesFirst_pending (fuel : Nat) (s : State) : (lossesFirst fuel s).pending = s.pending := by
  induction fuel generalizing s with
  | zero => rfl
  | succ n ih => simp only [lossesFirst]; split <;> [rfl; (split <;> simp [ih])]
@[simp] theorem timeoutsFirst_pending : (timeoutsFirst s).pending = s.pending := lossesFirst_pending _ s

/-- What the taking of timeouts before a house sample event touches. -/
theorem timeoutsFirst_eq : timeoutsFirst s = { s with
    ports := (timeoutsFirst s).ports, lanes := (timeoutsFirst s).lanes,
    conditions := (timeoutsFirst s).conditions, draws := (timeoutsFirst s).draws } := by
  have h := timeoutsFirst_hcu s; have := timeoutsFirst_routes s; have := timeoutsFirst_cues s
  have := timeoutsFirst_lines s; have := timeoutsFirst_egress s; have := timeoutsFirst_op s
  have := timeoutsFirst_link s; have := timeoutsFirst_cueTaken s; have := timeoutsFirst_pending s
  cases hu : timeoutsFirst s; simp_all

@[simp] theorem houseSample_link : (houseSample s).link = s.link := by simp [houseSample]
@[simp] theorem houseSample_draws : (houseSample s).draws = s.draws := by simp [houseSample]
@[simp] theorem houseSample_pending : (houseSample s).pending = s.pending := by simp [houseSample]
@[simp] theorem endSample_hcu : (endSample s).hcu = s.hcu.boundary s.hcu.boundaryInstant := by simp [endSample]
@[simp] theorem endSample_link : (endSample s).link = s.link := by simp [endSample]
@[simp] theorem endSample_pending : (endSample s).pending = s.pending := by simp [endSample]
@[simp] theorem settle_link : (settle s).link = s.link := by simp only [settle]; split <;> simp
@[simp] theorem settle_pending : (settle s).pending = s.pending := by simp only [settle]; split <;> simp

end Sys2Proof.Machine
end

