-- ==== Sys2Proof/Laws/Link.lean ====
section
/-! SUPPORT. What a request does at the link of a part that is `Ready` for it: it is taken at once, and the part begins
to send its reply. The statements about requests rest on these. -/

namespace Sys2Proof.Machine

/-- Taking the empty queue's rest changes nothing. -/
theorem State.withLink_queue_nil {s : State} (h : s.link.queue = []) : s.withLink { s.link with queue := [] } = s := by
  cases s; rename_i link _ _ _; cases link; simp_all [State.withLink]

/-- A request for a part that is ready is taken at once and its reply begins (R165, R168, R169). -/
theorem request_ready {dest : Address} {s : State} (h : Ready dest s) (q : Request) :
    request dest q s = (take q s).1.send (transmission (take q s).1.link.address q (take q s).2) := by
  obtain ⟨rfl, h2, h3, h4⟩ := h
  have taken : (s.withLink { s.link with queue := s.link.queue ++ [⟨false, q⟩] }).takeReady =
      serve ⟨false, q⟩ (s.withLink { s.link with queue := [] }) := by
    simp [State.takeReady, takeWaiting, State.withLink, h3, h4]
  rw [h4] at taken
  simp only [request, broadcastAddress, if_true, offer, queueCapacity, h4, List.length_nil]
  simp only [h2, if_false, Nat.zero_lt_succ, if_true, taken, State.withLink_queue_nil h4, serve, Bool.false_eq_true]

theorem isRestart_eq_false {q : Request} (h : q ≠ .restart) : isRestart q = false := by
  cases q <;> first | rfl | exact absurd rfl h

/-- A request other than Restart, for a part that is ready, leaves it replying (R169). -/
theorem request_replying {dest : Address} {s : State} (h : Ready dest s) {q : Request} (hq : q ≠ .restart) :
    request dest q s = (take q s).1.replying (kindOf q) (take q s).2.status (take q s).2.content := by
  rw [request_ready h]
  simp [State.send, transmission, State.replying, State.withLink, isRestart_eq_false hq]

/-- A request for another part is ignored (R165). -/
theorem request_other {dest : Address} {s : State} (h : dest ≠ s.link.address) (h' : dest ≠ broadcastAddress)
    (q : Request) : request dest q s = s := by
  simp [request, h, h']

/-- While a reply is being sent, no waiting request is taken (R168). -/
theorem takeReady_of_busy {s : State} (h : s.link.tx ≠ none) : s.takeReady = s := by
  rw [State.takeReady]
  cases s.link.queue.length with
  | zero => rfl
  | succ n => cases hx : s.link.tx <;> simp_all [takeWaiting]

end Sys2Proof.Machine
end

