-- ==== Sys2Proof/Tests/Slice0.lean ====
section
/-! SUPPORT. The model's own tests: the checks of WellFormed, values that the spec's worked sequences and examples give,
and, for every statement with hypotheses, a state and operands that meet them. -/

set_option Elab.async false

namespace Sys2Proof.Tests

open Sys2Proof Sys2Proof.Machine

/-! ## Helpers -/

/-- The state that a command answers; the same state where it answers none. -/
def after (c : Instr) (s : State) : State :=
  match exec c s with
  | .next t => t
  | _ => s

/-- The part right after a pin reset. -/
def fresh : State := State.reset

/-- The part with its present reply sent and done. -/
def quiet (s : State) : State := { s with link := { s.link with tx := none } }

/-- The unstuffed bytes of the reply being sent, where nothing in it was stuffed: without delimiters and check. -/
def answer (s : State) : List Byte := ((s.link.tx.map (·.wire)).getD []).tail.dropLast.dropLast.dropLast

/-- The same port in a bank with one port changed. -/
def withPort0 (f : Port → Port) (s : State) : State := { s with ports := s.ports.set 0 (f s.ports[0]) }

/-- A frame's body with every sample `x`. -/
def body (tag : Byte) (x : Sample) : List Byte :=
  let checked := tag :: (List.replicate 8 (sampleBytes x)).flatten
  checked ++ [crc8 checked]

/-- The same body with its check byte damaged. -/
def badBody (tag : Byte) (x : Sample) : List Byte := (body tag x).dropLast ++ [(body tag x).getLast! + 1]

/-- A body on the wire. -/
def sent (b : List Byte) : List Byte := 0xB3#8 :: 0x5C#8 :: b

/-- A port in LOCKED at 48,000 frames per second with 30 frames of fill. -/
def locked (p : Port) : Port := { p with
  enable := true, state := .locked, written := 1030, lastCapture := some 0, fader := ⟨.opened, 64⟩,
  resampler := { p.resampler with int := 1000 },
  tracker := ⟨.timing 0 0, 16777216, 16777216, 16777216⟩ }

/-- A port in HUNT. -/
def hunting (p : Port) : Port := { p with enable := true, state := .hunt }

/-- A part whose port 0 times out at the next house sample event, `now` periods into a house sample of 512. -/
def atBoundary (now : Nat) : State := { withPort0 locked fresh with hcu := { fresh.hcu with count := 3, now := now } }

/-! ## WellFormed refuses the ill-formed -/

theorem test_long_route_write_ill_formed :
    (Instr.routeWrite 0 0 80 (List.replicate 80 (0, 0))).wellFormed = false := by decide
theorem test_long_cue_load_ill_formed :
    (Instr.cueLoad 0 0 0 0 0 0 0 77 (List.replicate 77 (0, 0))).wellFormed = false := by decide
theorem test_known_unknown_kind_ill_formed : (Instr.unknownKind 0 0x33).wellFormed = false := by decide
theorem test_watch_on_internal_ill_formed : (Instr.watchSilence .internal).wellFormed = false := by decide
theorem test_empty_arrival_ill_formed : (Instr.frameArrival 0 []).wellFormed = false := by decide
theorem test_request_well_formed : (Instr.routeWrite 3 2 1 [(4, 0xF600)]).wellFormed = true := by decide

/-! ## The queue of commands -/

theorem test_no_word_spells_a_command : decodeTableWord 16 0x1234 = none := by decide
theorem test_step_takes_the_front :
    (match step { fresh with pending := [.go 0, .halt 0] } with
      | .next t => (t.op, t.pending)
      | _ => (.config, [])) = (.starting, [.halt 0]) := by decide +kernel
theorem test_time_passes_on_an_empty_queue :
    (match step fresh with | .next t => t.hcu.now | _ => 0) = 1 := by decide +kernel
theorem test_house_sample_falls_due :
    (match step { fresh with hcu := { fresh.hcu with now := 512 } } with | .next t => t.pending | _ => []) =
      [.houseSample] := by decide +kernel

/-! ## House clock (sections 1.10 to 1.12) -/

/-- R2: at 48 kHz in FREE one tick is two oscillator periods. -/
theorem test_tick_is_two_periods :
    ({ fresh with hcu := { fresh.hcu with now := 101 } } : State).hcu.tickCounter = 50 := by decide
theorem test_house_sample_counts :
    (houseSample fresh).hcu.count = 1 ∧ (houseSample fresh).hcu.tickCounter = 256 := by
  rw [houseSample_hcu]; decide +kernel
/-- R9: with M = 131,201 the boundaries after B come 512, 1,025 and 1,537 periods on. -/
theorem test_holdover_boundary :
    (Hcu.boundary 512 { fresh.hcu with regime := .holdover, holdover := 131201, holdBase := some (0, 1) }).sampleEnd =
      some 1025 := by decide
/-- R4: at 48 kHz a period is good from 510 to 514. -/
theorem test_good_period_limits :
    [509, 510, 514, 515].map (goodPeriod .k48) = [false, true, true, false] := by decide
theorem test_pin_reset_stops_the_part : (after .pinReset { fresh with op := .run }).op = .config := by decide
theorem test_clock_source_makes_a_candidate :
    (after (.clockSource 0 1) fresh).hcu.candidate = some .wordclock := by decide +kernel
theorem test_clock_rate_needs_config :
    answer (after (.clockRate 0 1) { fresh with op := .run }) = [0x80, 0x10, 0x01, 0x11] := by decide +kernel
theorem test_clock_rate_sets_holdover : (after (.clockRate 0 1) fresh).hcu.holdover = 65536 := by decide +kernel
theorem test_clock_query_length : ((answer (after (.clockQuery 0) fresh)).getD 2 0) = 20 := by decide +kernel

/-- A part qualifying the word clock: 255 good periods counted, the last edge 512 periods ago. -/
def qualifying : State := { fresh with hcu := { fresh.hcu with
  requested := .wordclock, candidate := some .wordclock, goodCount := 255, runSum := 130560,
  qualPeriods := List.replicate 255 512, now := 1000, sampleStart := 900, sampleEnd := some 1412,
  candidateWatch := some ⟨some 488, 488⟩ } }

/-- A part following the word clock, its last edge 512 periods ago. -/
def following : State := { fresh with hcu := { fresh.hcu with
  requested := .wordclock, regime := .following, active := .wordclock, periods := List.replicate 256 512,
  now := 1000, sampleStart := 488, sampleEnd := none, activeWatch := some ⟨some 488, 488⟩ } }

theorem test_wordclock_edge_qualifies :
    ((after .wordclockEdge qualifying).hcu.regime, (after .wordclockEdge qualifying).hcu.holdover) =
      (.following, 131072) := by decide +kernel
theorem test_silence_loses_the_source :
    (after (.watchSilence .wordclock)
      { following with hcu := { following.hcu with now := 1512, sampleStart := 1400 } }).hcu.regime = .holdover := by
  decide +kernel
theorem test_qualification_needs_256 : (after .qualificationComplete qualifying).hcu.regime = .free := by
  decide +kernel

/-! ## Ports and trackers (sections 2.12, 2.13, 3.1, 3.10) -/

/-- The CRC-16 with this generator and start value checks the digits 1 to 9 as 0x29B1 (PRESUMED: a published check
value, not the manual's). -/
theorem test_crc16_of_digits :
    crc16 [0x31, 0x32, 0x33, 0x34, 0x35, 0x36, 0x37, 0x38, 0x39] = 0x29B1 := by decide +kernel
/-- Section 3.1's table. -/
theorem test_nominal_steps :
    [nominalStep .k48 .r44100, nominalStep .k48 .r48000, nominalStep .k96 .r44100] =
      [15414067, 16777216, 7707033] := by decide
/-- Section 3.10: the completion of a window 131,059 ticks long, w = 9. -/
theorem test_measured_step : measuredStep 9 131059 = 16778880 := by decide
theorem test_filter_moves_a_sixteenth : filterStep 16778880 16779008 = 16778888 := by decide
theorem test_good_frame_in_hunt :
    ((after (.frameArrival 0 (sent (body 0x21 5))) (withPort0 hunting fresh)).ports[0]).goodRun = 1 := by decide +kernel
theorem test_bad_frame_scores :
    ((after (.frameArrival 0 (sent (badBody 0x21 5))) (withPort0 hunting fresh)).ports[0]).score = 8 := by
  decide +kernel
theorem test_sync_word_collects :
    ((after (.syncWord 0) fresh).ports[0]).receiver = .collect [] := by decide +kernel
/-- R16: a frame whose bytes are cut across commands arrives with its 26th body byte, and not before. -/
theorem test_frame_cut_across_commands :
    ((after (.frameArrival 0 ((sent (body 0x21 5)).drop 9)) (after (.frameArrival 0 ((sent (body 0x21 5)).take 9))
      (withPort0 hunting fresh))).ports[0]).goodRun = 1 ∧
    ((after (.frameArrival 0 ((sent (body 0x21 5)).dropLast)) (withPort0 hunting fresh)).ports[0]).goodRun = 0 := by
  decide +kernel
/-- R16: in collect the sync word is two body bytes. -/
theorem test_sync_word_in_collect :
    ((after (.syncWord 0) (after (.syncWord 0) fresh)).ports[0]).receiver = .collect [0xB3, 0x5C] := by decide +kernel
/-- R26: at equal rates the timeout is 1,024 ticks. -/
theorem test_frame_timeout :
    ((after (.frameTimeout 0) { withPort0 locked fresh with hcu := { fresh.hcu with count := 4 } }).ports[0]).state =
      .hunt := by decide +kernel
theorem test_frame_timeout_not_due :
    ((after (.frameTimeout 0) { withPort0 locked fresh with hcu := { fresh.hcu with count := 3 } }).ports[0]).state =
      .locked := by decide +kernel
/-- R64, R75: at the end of a house sample a timeout that falls due at its event is due beside it, and may be taken
first; a period earlier it is not due. -/
theorem test_frame_timeout_before_the_house_sample :
    dueEvents (atBoundary 512) = [.houseSample, .frameTimeout 0] ∧ dueEvents (atBoundary 511) = [] ∧
    ((after (.frameTimeout 0) (atBoundary 512)).ports[0]).state = .hunt ∧
    ((after (.frameTimeout 0) (atBoundary 512)).ports[0]).losses = 1 ∧
    ((after (.frameTimeout 0) (atBoundary 511)).ports[0]).state = .locked := by decide +kernel
theorem test_window_locks :
    ((after (.windowComplete 0) (withPort0 (fun p => { p with
      enable := true, state := .seeding, windowExp := 9, written := 512, lastCapture := some 131059,
      tracker := ⟨.timing 0 512, 0, 0, 0⟩ }) fresh)).ports[0]).tracker =
      ⟨.timing 131059 0, 16778880, 16778880, 16778880⟩ := by decide +kernel
theorem test_seeding_entry :
    ((after (.seedingEntry 0) (withPort0 (fun p => { hunting p with goodRun := 16, lastCapture := some 7 })
      fresh)).ports[0]).state = .seeding := by decide +kernel
theorem test_port_setup_enters_hunt :
    ((after (.portSetup 0 2 1 1 24 9) fresh).ports[2]).state = .hunt := by decide +kernel
theorem test_port_accept_stores :
    ((after (.portAccept 0 2 0x21 0xFF) fresh).ports[2]).acceptTag = 0x21 := by decide +kernel
theorem test_port_query_length : (answer (after (.portQuery 0 0) fresh)).getD 2 0 = 62 := by decide +kernel
theorem test_port_revive_of_a_running_port :
    answer (after (.portRevive 0 0) fresh) = [0x80, 0x23, 0x01, 0x14] := by decide +kernel

/-! ## Resampler and faders (sections 4.4, 5.7) -/

/-- Section 4.4: frames 1,000, 2,000, 4,000, 3,000 at f = 1/2. -/
theorem test_interpolation_half : interpolate 1000 2000 4000 3000 32768 = 3125 := by decide
/-- R74's example. -/
theorem test_scale_truncates : [63, 62, 44, 45].map (fun l => scale l (-1000001)) =
    [-984375, -968750, -687500, -703125] := by decide
theorem test_fader_returns_from_level_64 : (Fader.mk .closing 64).giveOpen = ⟨.opened, 64⟩ := by decide
theorem test_arrival_at_shut_completes_a_switch :
    ((after (.arrivalAtShut (.lane 3)) { fresh with lanes := fresh.lanes.set 3 { Lane.atReset with
      primary := some ⟨0, 0⟩, alternate := some ⟨1, 0⟩, selection := some .primary,
      pendingSwitch := some .alternate } }).lanes[3]).selection = some .alternate := by decide +kernel
theorem test_arrival_at_open_changes_nothing : after (.arrivalAtOpen (.line 5)) fresh = fresh := by decide +kernel

/-! ## Lanes (sections 6.9, 13.5) -/

theorem test_lane_bind_selects_the_primary :
    ((after (.laneBind 0 9 0x21 0x31 0) fresh).lanes[9]).selection = some .primary := by decide +kernel
theorem test_lane_select_unbound :
    answer (after (.laneSelect 0 0 1) fresh) = [0x80, 0x31, 0x01, 0x14] := by decide +kernel
theorem test_lane_mute_stores : ((after (.laneMute 0 7 1) fresh).lanes[7]).mute = true := by decide +kernel
/-- Section 13.5's reply, byte by byte. -/
theorem test_lane_query_reply :
    answer (after (.laneQuery 6 9) { fresh with
      link := { fresh.link with address := 6 },
      ports := (fresh.ports.set 2 { locked fresh.ports[2] with degraded := true }).set 3 (locked fresh.ports[3]),
      lanes := fresh.lanes.set 9 ⟨some ⟨2, 1⟩, some ⟨3, 1⟩, .hold, false, some .primary, some .alternate,
        ⟨.closing, 31⟩⟩ }) =
    [0x86, 0x33, 0x0B, 0x00, 0x21, 0x31, 0x00, 0x01, 0x02, 0x00, 0x01, 0x02, 0x01, 0x1F] := by decide +kernel

/-! ## Route lists and cues (R119, sections 7.6 and 8.13) -/

/-- Section 12.10's Route Write: gain 62,976 becomes 32,768 and the reply is ADJUSTED. -/
theorem test_route_write_clamps :
    ((after (.routeWrite 0 2 1 [(4, 0xF600)]) fresh).routes[2]) = [⟨4, 32768, none⟩] ∧
    answer (after (.routeWrite 0 2 1 [(4, 0xF600)]) fresh) = [0x80, 0x40, 0x01, 0x01] := by decide +kernel
theorem test_route_query_of_an_empty_list :
    answer (after (.routeQuery 0 1) fresh) = [0x80, 0x41, 0x06, 0, 1, 0, 0, 0, 0] := by decide +kernel
/-- R119's example. -/
theorem test_ramp_truncates_toward_start :
    [1, 2, 3].map (fun k => rampGain 10000 0 k 3) = [6667, 3334, 0] := by decide

/-- A part with a cue armed in slot 6 for lane 0, due now, of ramp length 3. -/
def armed : State := quiet (after (.cueLoad 0 6 0 2 1 0 3 1 [(4, 100)]) fresh)

/-- The same cue ACTIVE. -/
def active : State := after (.cueActivation 0) armed

theorem test_cue_load_arms : (armed.cues[6]).isArmed = true := by decide +kernel
theorem test_cue_activation_installs_the_union :
    (active.routes[0]) = [⟨4, 0, some ⟨0, 100, false⟩⟩] := by decide +kernel
theorem test_cue_completion_not_at_step_zero : after (.cueCompletion 6) active = active := by decide +kernel
theorem test_cue_abort_of_an_armed_slot :
    answer (after (.cueAbort 0 6) armed) = [0x80, 0x51, 0x02, 0, 0] := by decide +kernel
theorem test_cue_abort_all_counts : answer (after (.cueAbortAll 0) armed) = [0x80, 0x52, 0x02, 0, 1] := by
  decide +kernel
theorem test_cue_query_of_a_free_slot :
    answer (after (.cueQuery 0 3) fresh) = [0x80, 0x53, 0x03, 0, 3, 0] := by decide +kernel
theorem test_cue_survey_length : (takeCueSurvey fresh).2.content.length = 160 := by decide +kernel

/-! ## Lines and run control (sections 9.8, 10.8, 10.9) -/

theorem test_line_setup_clears_the_buffer :
    ((after (.lineSetup 0 1 30000 3) fresh).lines[1]).buffer = [0, 0, 0] := by decide +kernel
theorem test_line_mute_of_all : ((after (.lineMute 0 255 1) fresh).lines[63]).mute = true := by decide +kernel
theorem test_line_query_of_reset :
    answer (after (.lineQuery 0 1) fresh) = [0x80, 0x62, 0x0F, 0, 1, 0x80, 0, 0, 0, 0, 2, 0, 0, 0, 0, 0, 0, 0] := by
  decide +kernel
theorem test_delay_of_three :
    (delayStep 400 [100, 200, 300]) = (100, [200, 300, 400]) := by decide
theorem test_go_opens_the_lines : ((after (.go 0) fresh).lines[5]).fader = ⟨.opening, 0⟩ := by decide +kernel
theorem test_go_in_stopping_is_busy :
    answer (after (.go 0) { fresh with op := .stopping }) = [0x80, 0x03, 0x01, 0x10] := by decide +kernel
theorem test_halt_directly_after_go :
    ((after (.halt 0) (quiet (after (.go 0) fresh))).lines[5]).fader = ⟨.shut, 0⟩ := by decide +kernel

/-! ## Conditions (section 11.6) -/

/-- Slip from port 4 and Port Warn from port 2. -/
def raised : State := (fresh.raise .slip 16).raise .portWarn 4

theorem test_attention_is_low : attnLow raised.conditions = true := by decide +kernel
theorem test_take_hands_over_the_highest :
    answer (after (.conditionTake 0) raised) = [0x80, 0x70, 0x0A, 0, 6, 0, 0, 0, 0, 0, 0, 0, 16] := by decide +kernel
theorem test_take_of_none :
    answer (after (.conditionTake 0) fresh) = [0x80, 0x70, 0x0A, 0, 0, 0, 0, 0, 0, 0, 0, 0, 0] := by decide +kernel
theorem test_release_of_none :
    answer (after (.conditionRelease 0) fresh) = [0x80, 0x71, 0x01, 0x14] := by decide +kernel
theorem test_mask_refuses_rank_zero :
    answer (after (.conditionMask 0 0x0001) fresh) = [0x80, 0x72, 0x01, 0x12] := by decide +kernel
theorem test_clear_empties_the_detail :
    ((after (.conditionClear 0 0x0040) raised).conditions[5]).detail = 0 := by decide +kernel
theorem test_survey_length : (takeConditionSurvey fresh).2.content.length = 102 := by decide +kernel

/-! ## The control link (sections 12.9 to 12.11, 10.10) -/

theorem test_identify :
    answer (after (.identify 3) { fresh with link := { fresh.link with address := 3 } }) =
      [0x83, 0x01, 0x0B, 0, 0x48, 0x64, 0x01, 3, 6, 48, 64, 32, 2, 0] := by decide +kernel
theorem test_status_length : (answer (after (.status 0) fresh)).getD 2 0 = 29 := by decide +kernel
theorem test_counters_clear :
    (after (.countersClear 0) { fresh with link := { fresh.link with framings := 4 } }).link.framings = 0 := by
  decide +kernel
theorem test_unknown_kind : answer (after (.unknownKind 0 0x99) fresh) = [0x80, 0x99, 0x01, 0x1F] := by decide +kernel
theorem test_delimiter_opens_a_frame :
    (after (.requestPairByte 0xF5 true) fresh).link.rx = .collecting := by decide +kernel
theorem test_bad_escape_is_a_framing_error :
    (after (.requestPairByte 0x31 true) { fresh with link := { fresh.link with rx := .escaped, buffer := [3, 5] } }).link =
      { fresh.link with framings := 1 } := by decide +kernel
theorem test_abort_counts_nothing :
    (after .abort { fresh with link := { fresh.link with rx := .collecting, buffer := [5, 2, 0] } }).link =
      { fresh.link with rx := .collecting } := by decide +kernel
/-- R152, R164, R175: the delimiter at which a broadcast Restart is taken leaves the receiver IDLE (log entry 29). -/
theorem test_broadcast_restart_leaves_idle :
    (after .controlFrameEnd { fresh with op := .run, link := { fresh.link with
      rx := .collecting, buffer := withCheck [0x0F, 0x05, 0x00] } }).link = fresh.link := by decide +kernel
/-- R164: in IDLE the first byte of the pair is discarded and the second opens a frame. -/
theorem test_abort_in_idle : (after .abort fresh).link = { fresh.link with rx := .collecting } := by decide +kernel
/-- R164, R166: after an escape the first byte of the pair is a framing error, and the second opens a frame. -/
theorem test_abort_in_escaped :
    (after .abort { fresh with link := { fresh.link with rx := .escaped, buffer := [3, 5] } }).link =
      { fresh.link with rx := .collecting, framings := 1 } := by decide +kernel
theorem test_framing_error_in_idle : after .framingError fresh = fresh := by decide +kernel
theorem test_runt_is_dropped :
    (after .controlFrameEnd { fresh with link := { fresh.link with rx := .collecting, buffer := [1, 2, 3, 4] } }).link =
      { fresh.link with rx := .collecting } := by decide +kernel
theorem test_frame_end_takes_a_request :
    (after .controlFrameEnd { fresh with link := { fresh.link with
      rx := .collecting, buffer := withCheck [0x00, 0x03, 0x00] } }).op = .starting := by decide +kernel
theorem test_reply_end_takes_the_next :
    ((after .replyEnd { fresh with link := { fresh.link with
      tx := some ⟨[0xF5, 0xF5], false⟩, queue := [⟨false, .laneMute 1 1⟩] } }).lanes[1]).mute = true := by
  decide +kernel
theorem test_restart_waits_for_its_reply :
    (after (.restart 0) { fresh with op := .run }).op = .run ∧
    (after .restartExecute (after (.restart 0) { fresh with op := .run })).op = .config := by decide +kernel
theorem test_broadcast_restart : (after (.restart 15) { fresh with op := .run }).op = .config := by decide +kernel

/-! ## Witnesses: for each statement with hypotheses, a state and operands that meet them -/

/-- A request answered with one status. -/
def refusal (status : Byte) (c : Instr) (s : State) : Prop := (answer (after c s)).getD 3 0 = status

/-- For LinkRequests, and for every other statement about a part that is `Ready`. -/
theorem witness_ready : Ready 0 fresh := by decide +kernel

theorem witness_StepRunsFront : ({ fresh with pending := [.go 0] } : State).pending = [.go 0] := rfl

/-- A part with two events due at once: a house sample and port 0's frame timeout. -/
def twoDue : State := { withPort0 locked fresh with hcu := { fresh.hcu with count := 4, now := 512 } }

theorem witness_EmptyQueuePassesTime :
    fresh.pending = [] ∧ dueEvents fresh = [] ∧
    dueEvents { fresh with hcu := { fresh.hcu with now := 512 } } = [.houseSample] ∧
    twoDue.pending = [] ∧ 2 ≤ (dueEvents twoDue).length ∧ .frameTimeout 0 ∈ dueEvents twoDue ∧
    dueEvents { following with hcu := { following.hcu with now := 1511 } } = [] ∧
    dueEvents { following with hcu := { following.hcu with now := 1512 } } = [.watchSilence .wordclock] := by
  decide +kernel

/-- A part sending the reply to an addressed Restart. -/
def leaving : State := { fresh with op := .run, link := { fresh.link with tx := some ⟨[0xF5], true⟩ } }

theorem witness_Restart :
    leaving.link.tx = some ⟨[0xF5], true⟩ ∧ fresh.link.tx = none ∧ fresh.link.queue = [] ∧ Ready 0 fresh := by
  decide +kernel

/-- R113: a house sample activates an ARMED cue that is due, and the cue takes no ramp step there (R117). -/
theorem test_house_sample_activates_a_due_cue :
    ((cueStage armed).cues[6]).ramping?.map (·.2) = some 0 ∧
    (cueStage armed).routes[0] = [⟨4, 0, some ⟨0, 100, false⟩⟩] := by decide +kernel

/-- A part with a cue ACTIVE on lane 0 at step k of 3. -/
def ramping (k : Nat) : State := { fresh with
  routes := fresh.routes.set 0 [⟨4, rampGain 0 100 k 3, some ⟨0, 100, false⟩⟩],
  cues := fresh.cues.set 6 (.active ⟨0, 2, 0, 3, [(4, 100)]⟩ k 0 0) }

theorem witness_HouseSampleRamp :
    RouteLaw (ramping 0) ∧ RouteLaw (ramping 2) ∧
    (ramping 2).cues[6] = .active ⟨0, 2, 0, 3, [(4, 100)]⟩ 2 0 0 ∧ (ramping 2).cueTaken[0] = false ∧
    RouteLaw armed ∧ (armed.cues[6]).isArmed = true ∧ (∀ i : Fin 32, (ramping 2).cues[i].rampLane? ≠ some 1) ∧
    (ramping 2).cues[5].isArmed = false ∧ (ramping 2).cues[5].rampLane? = none :=
  ⟨by decide +kernel, by decide +kernel, by decide +kernel, by decide +kernel, by decide +kernel, by decide +kernel,
    by decide +kernel, by decide +kernel, by decide +kernel⟩

theorem witness_HouseSampleSignalPath : RouteLaw fresh := by decide +kernel

/-- A part in an operating state with every line fader at one place. -/
def lined (op : OpState) (f : Fader) : State :=
  { fresh with op := op, lines := Vector.replicate 64 { Line.atReset with fader := f } }

theorem witness_HouseSampleRunControl :
    (∀ n : Fin 64, (houseSample (lined .starting ⟨.opening, 63⟩)).lines[n].fader.state = .opened) ∧
    (houseSample (lined .starting ⟨.opening, 62⟩)).lines[(0 : Fin 64)].fader.state ≠ .opened ∧
    (∀ n : Fin 64, (houseSample (lined .stopping ⟨.closing, 1⟩)).lines[n].fader.state = .shut) ∧
    (houseSample (lined .stopping ⟨.closing, 2⟩)).lines[(0 : Fin 64)].fader.state ≠ .shut := by
  simp only [houseSample_line_fader]; simp [lined, Fader.step]

/-- In CONFIG run control makes no test (R149). -/
theorem config_stays {s : State} (h : s.op = .config) : (houseSample s).op = .config := by
  simp [houseSample, signalPath, runTest, h]

theorem witness_ConfigIsSilent : LineLaw fresh ∧ FaderLaw fresh ∧ (houseSample fresh).op = .config :=
  ⟨by decide +kernel, by decide +kernel, config_stays rfl⟩

theorem witness_GoReachesRun :
    Ready 0 fresh ∧ LineLaw fresh ∧ FaderLaw fresh ∧ fresh.op = .config ∧ fresh.lines[0].mute = false ∧
    ∃ u : Nat → State, u 0 = after (.go 0) fresh ∧ ∀ j, exec .houseSample (u j) = .next (u (j + 1)) :=
  ⟨by decide +kernel, by decide +kernel, by decide +kernel, rfl, rfl,
    fun j => j.rec (after (.go 0) fresh) fun _ s => endSample s, rfl, fun _ => rfl⟩

/-- The part `qualifying` with its candidate's last edge `d` periods ago. -/
def lastEdge (d : Nat) : State :=
  { qualifying with hcu := { qualifying.hcu with
      goodCount := 3, candidateWatch := some ⟨some (1000 - d), 1000 - d⟩, now := 1000 } }

theorem witness_CandidateWatch :
    (qualifying.hcu.regime ≠ .following ∧ qualifying.hcu.candidate = some .wordclock ∧
      qualifying.hcu.candidateWatch = some ⟨some 488, 488⟩) ∧
    fresh.hcu.candidate ≠ some .wordclock ∧
    (after (.clockSource 0 1) fresh).hcu.candidateWatch = some ⟨none, 0⟩ ∧
    (after .wordclockEdge (lastEdge 510)).hcu.goodCount = 4 ∧ (after .wordclockEdge (lastEdge 515)).hcu.goodCount = 0 ∧
    (after .wordclockEdge qualifying).hcu.goodCount = 0 ∧
    ({ qualifying.hcu with now := 1512 } : Hcu).now = 488 + 2 * qualifying.hcu.rate.nominal ∧
    (referenceEdge (.port 0) { lastEdge 510 with hcu := { (lastEdge 510).hcu with
      candidate := some (.port 0) } }).hcu.goodCount = 4 := by decide +kernel

/-- The part `following` at another instant. -/
def followingAt (now : Nat) : State := { following with hcu := { following.hcu with now := now } }

theorem witness_FollowedWatch :
    (following.hcu.regime = .following ∧ following.hcu.active = .wordclock ∧
      following.hcu.activeWatch = some ⟨some 488, 488⟩) ∧
    (goodPeriod .k48 (998 - 488) = true ∧ goodPeriod .k48 (1002 - 488) = true ∧ goodPeriod .k48 (1003 - 488) = false) ∧
    (followingAt 1003).hcu.Law ∧ (followingAt 1511).hcu.Law ∧ (followingAt 1512).hcu.Law ∧
    ({ (followingAt 1003).hcu with active := .port 0, requested := .port 0 } : Hcu).Law :=
  ⟨by decide +kernel, by decide +kernel, by decide +kernel, by decide +kernel, by decide +kernel, by decide +kernel⟩

theorem witness_QualificationCompletes :
    qualifying.hcu.candidate = some .wordclock ∧ qualifying.hcu.goodCount ≠ 256 ∧
    ({ qualifying.hcu with goodCount := 256 } : Hcu).goodCount = 256 := by decide

theorem witness_ClockRateRequest :
    Ready 0 fresh ∧ fresh.op = .config ∧ HouseRate.k96 ≠ fresh.hcu.rate ∧ (∀ k : Fin 6, fresh.ports[k].Ranges) ∧
    (∀ k : Fin 6, fresh.ports[k].ScoreLaw) ∧ (∀ k : Fin 6, fresh.ports[k].WindowLaw) ∧
    (∀ k : Fin 6, fresh.ports[k].ResamplerLaw) ∧ ∀ k : Fin 6, fresh.ports[k].StepLaw .k48 :=
  ⟨by decide +kernel, rfl, by decide, by decide +kernel, by decide +kernel, by decide +kernel, by decide +kernel,
    by decide +kernel⟩

theorem witness_ClockSourceRequest :
    Ready 0 fresh ∧ Ready 0 following ∧ 7 < (8#8).toNat ∧ sourceCode (.port 5) = 7#8 ∧ sourceCode .internal = 0#8 ∧
    following.hcu.regime ≠ .free ∧ fresh.hcu.regime = .free ∧
    (after (.portSetup 0 5 0 0 24 9) fresh).ports[5].rateCode.hertz ≠ fresh.hcu.rate.hertz := by decide +kernel

theorem witness_FrameReceived :
    fresh.ports[0].receiver = .search none ∧ (body 0x21 5).length = 26 ∧ fresh.ports[0].state = .off ∧
    (withPort0 hunting fresh).ports[0].receiver = .search none ∧ (withPort0 hunting fresh).ports[0].state = .hunt ∧
    (withPort0 hunting fresh).hcu.watches (.port 0) = false ∧
    (withPort0 hunting (after (.clockSource 0 2) fresh)).hcu.watches (.port 0) = true ∧
    (withPort0 hunting (after (.clockSource 0 2) fresh)).ports[0].receiver = .search none ∧
    (withPort0 hunting (after (.clockSource 0 2) fresh)).ports[0].state = .hunt := by decide +kernel

/-- A port in HUNT that has collected the first `n` bytes of a body. -/
def collecting (n : Nat) (p : Port) : Port := { hunting p with receiver := .collect ((body 0x21 5).take n) }

/-- For the clauses of FrameReceived about single bytes. -/
theorem witness_FrameReceived_bytes :
    (withPort0 (collecting 24) fresh).ports[0].receiver = .collect ((body 0x21 5).take 24) ∧
    ((body 0x21 5).take 24).length < 25 ∧ ((body 0x21 5).take 25).length = 25 ∧
    (withPort0 (collecting 25) fresh).ports[0].receiver = .collect ((body 0x21 5).take 25) ∧
    (withPort0 (collecting 25) fresh).ports[0].state = .hunt ∧
    (withPort0 (collecting 25) (after (.clockSource 0 2) fresh)).hcu.watches (.port 0) = true ∧
    (withPort0 (fun p => { p with receiver := .search (some 0xB3) }) fresh).ports[0].receiver = .search (some 0xB3) := by
  decide +kernel

/-- R3, R18: an arrival at a port that is the candidate opens its first period, whatever the arrival's class. -/
theorem test_arrival_is_a_reference_edge :
    (referenceEdge (.port 0) (after (.clockSource 0 2) fresh)).hcu.candidateWatch = some ⟨some 0, 0⟩ := by decide +kernel

theorem witness_ArrivalHandled :
    (body 0x21 5).length = 26 ∧ (badBody 0x21 5).length = 26 ∧
    (hunting Port.atReset).classify (body 0x21 5) = .good ∧ (hunting Port.atReset).classify (badBody 0x21 5) = .badCheck ∧
    ({ Port.atReset with acceptMask := 1 } : Port).classify (body 0x21 5) = .foreign ∧
    (hunting Port.atReset).state = .hunt ∧ (locked Port.atReset).state = .locked := by decide +kernel

theorem witness_TimeoutAndSeeding :
    timeoutDue 0 { withPort0 locked fresh with hcu := { fresh.hcu with count := 4 } } = true ∧
    timeoutDue 0 { withPort0 locked fresh with hcu := { fresh.hcu with count := 3, now := 511 } } = false ∧
    boundaryTimeouts (atBoundary 512) = [0] ∧ boundaryTimeouts fresh = [] ∧
    (atBoundary 512).hcu.sampleEnd = some 512 ∧ (withPort0 locked fresh).ports[0].lastCapture = some 0 ∧
    (withPort0 hunting fresh).ports[0].state = .hunt ∧
    (hunting { Port.atReset with goodRun := 16 }).goodRun = 16 := by decide +kernel

/-- A port whose window is full after `elapsed` ticks. -/
def full (state : PortState) (elapsed : Nat) : Port := { locked Port.atReset with
  state := state, lastCapture := some (BitVec.ofNat 32 elapsed),
  tracker := ⟨.timing 0 512, 16777216, 16777216, 16777216⟩ }

theorem witness_WindowCompletes :
    (full .seeding 131072).tracker.window = .timing 0 512 ∧ (full .seeding 131072).lastCapture = some 131072 ∧
    (full .seeding 131072).state = .seeding ∧ (full .seeding 131072).resampler.slipPending = false ∧
    (full .locked 131072).state = .locked ∧ (full .locked 131072).windowExp = 9 ∧
    rateFault 16777216 (measuredStep 9 131072) = false ∧ rateFault 16777216 (measuredStep 9 142663) = true ∧
    512 ≠ 2 ^ 10 ∧ fresh.ports[0].tracker.window = .idle ∧ (hunting Port.atReset).state ≠ .seeding ∧
    (hunting Port.atReset).state ≠ .locked ∧ (Port.notice (full .locked 1)).tracker.window = .waiting := by decide +kernel

theorem witness_FaderArrivals :
    fresh.ports[0].fader.state = .shut ∧ fresh.lanes[0].fader = ⟨.shut, 0⟩ ∧
    (withPort0 (fun p => { locked p with fader := ⟨.shut, 0⟩ }) fresh).ports[0].state = .locked := by decide +kernel

theorem witness_PortSetup :
    Ready 0 fresh ∧ refusal 0x12 (.portSetup 0 0 1 1 49 9) fresh ∧ refusal 0x12 (.portSetup 0 6 1 1 24 9) fresh ∧
    refusal 0 (.portSetup 0 5 1 3 48 12) fresh ∧
    [IngressRate.r44100, .r48000, .r88200, .r96000][(3#8).toNat]? = some .r96000 ∧ (5 : Fin 6).val = (5#8).toNat := by
  unfold refusal; decide +kernel

/-- For PortAcceptAndRevive and PortQueryAnswers. -/
theorem witness_PortRequests :
    Ready 0 fresh ∧ 5 < (6#8).toNat ∧ (5 : Fin 6).val = (5#8).toNat ∧ fresh.ports[5].state ≠ .barred ∧
    (withPort0 (fun p => { p with enable := true, state := .barred, score := 256 }) fresh).ports[0].state = .barred := by
  decide +kernel

theorem witness_FaderMoves :
    (Fader.mk .opened 64).Law ∧ (Fader.mk .closing 64).Law ∧ (Fader.mk .closing 1).Law ∧ (Fader.mk .shut 0).Law ∧
    (Fader.mk .opening 0).Law ∧ (Fader.mk .opening 63).Law ∧ InRange (-8388608) ∧ InRange 8388607 :=
  ⟨by decide, by decide, by decide, by decide, by decide, by decide, by decide, by decide⟩

theorem witness_LaneRetarget :
    (Lane.mk (some ⟨0, 0⟩) (some ⟨1, 0⟩) .hold false (some .primary) (some .alternate) ⟨.opening, 0⟩).fader.Law := by
  decide

/-- A lane bound to ports 0 and 1. -/
def bound : Lane := ⟨some ⟨0, 0⟩, some ⟨1, 0⟩, .auto, false, some .primary, none, ⟨.opened, 64⟩⟩

/-- A part whose lane 0 is so bound, port 1 LOCKED. -/
def failing : State := { fresh with lanes := fresh.lanes.set 0 bound, ports := fresh.ports.set 1 (locked Port.atReset) }

theorem witness_LaneEvaluation :
    failing.lanes[0] = bound ∧ prefersOther failing.ports .auto .primary ⟨0, 0⟩ ⟨1, 0⟩ = true ∧
    prefersOther fresh.ports .auto .primary ⟨0, 0⟩ ⟨1, 0⟩ = false ∧
    (evaluateLanes (fun _ => true) failing).lanes[0].pendingSwitch = some .alternate ∧
    (locked Port.atReset).rank ≠ Port.atReset.rank ∧ failing.ports[1].rank ≠ fresh.ports[1].rank ∧
    (∀ k : Fin 6, (withPort0 hunting fresh).ports[k].rank = fresh.ports[k].rank) := by decide +kernel

theorem witness_LaneBind :
    Ready 0 fresh ∧ refusal 0x12 (.laneBind 0 0 0x60 0xFF 0) fresh ∧ refusal 0x12 (.laneBind 0 0 0xFF 0x21 0) fresh ∧
    refusal 0x12 (.laneBind 0 0 0x21 0x21 0) fresh ∧ refusal 0 (.laneBind 0 47 0x57 0xFF 1) fresh ∧
    (0x57#8).toNat = 16 * (5 : Fin 6).val + (7 : Fin 8).val ∧ (47 : Fin 48).val = (47#8).toNat := by
  unfold refusal; decide +kernel

theorem witness_LaneSelectAndMute :
    Ready 0 failing ∧ refusal 0x12 (.laneSelect 0 48 0) failing ∧ refusal 0x14 (.laneSelect 0 0 0) failing ∧
    refusal 0 (.laneSelect 0 0 1) failing ∧ refusal 0x14 (.laneSelect 0 1 1) failing ∧
    refusal 0x12 (.laneMute 0 0 2) failing ∧ refusal 0 (.laneMute 0 47 1) failing := by unfold refusal; decide +kernel

/-- For ClockLaneLineQueries and RouteAndCueQueries. -/
theorem witness_queries :
    Ready 0 fresh ∧ RouteLaw fresh ∧ 47 < (48#8).toNat ∧ (47 : Fin 48).val = (47#8).toNat ∧ 63 < (64#8).toNat ∧
    (63 : Fin 64).val = (63#8).toNat ∧ 31 < (32#8).toNat ∧ (31 : Fin 32).val = (31#8).toNat :=
  ⟨by decide +kernel, by decide +kernel, by decide, by decide, by decide, by decide, by decide, by decide⟩

theorem witness_RouteWrite :
    Ready 0 fresh ∧ refusal 0x1E (.routeWrite 0 0 2 [(4, 1)]) fresh ∧ refusal 0x12 (.routeWrite 0 48 0 []) fresh ∧
    refusal 0x1E (.routeWrite 0 0 1 [(64, 1)]) fresh ∧ refusal 0x1E (.routeWrite 0 0 2 [(4, 1), (4, 2)]) fresh ∧
    refusal 0x10 (.routeWrite 0 0 1 [(4, 1)]) (ramping 0) ∧ refusal 0 (.routeWrite 0 47 1 [(63, 32768)]) fresh ∧
    refusal 1 (.routeWrite 0 47 1 [(63, 32769)]) fresh := by unfold refusal; decide +kernel

theorem witness_CueLoad :
    Ready 0 fresh ∧ refusal 0x1E (.cueLoad 0 0 0 0 0 0 0 1 []) fresh ∧ refusal 0x12 (.cueLoad 0 32 0 0 0 0 0 0 []) fresh ∧
    refusal 0x10 (.cueLoad 0 6 0 0 0 0 0 0 []) (ramping 0) ∧
    refusal 0 (.cueLoad 0 31 47 255 1 0 65535 1 [(63, 32768)]) fresh := by unfold refusal; decide +kernel

/-- A part with a cue armed in slot 6 for lane 0, due at the house sample to come. -/
def waiting (list : List RouteEntry) : State := { fresh with
  routes := fresh.routes.set 0 list, cues := fresh.cues.set 6 (.armed ⟨0, 2, 0, 3, [(4, 100)]⟩) }

/-- Sixteen entries of one lane, none of them for line 4. -/
def sixteen : List RouteEntry := (List.finRange 16).map fun i => ⟨⟨i.val + 8, by omega⟩, 0, none⟩

theorem witness_CueActivates :
    Ascending (waiting []) ∧ Ascending (waiting sixteen) ∧ Ascending (ramping 0) ∧
    (waiting []).cues[6] = .armed ⟨0, 2, 0, 3, [(4, 100)]⟩ ∧ (ramping 0).cues[6].rampLane? = some 0 ∧
    (after (.cueActivation 0) (waiting [])).cues[6] = .active ⟨0, 2, 0, 3, [(4, 100)]⟩ 0 0 0 ∧
    (after (.cueActivation 0) (waiting sixteen)).cues[6] = .spent ⟨0, 2, 0, 3, [(4, 100)]⟩ .cut 0 (some 0) :=
  ⟨by decide +kernel, by decide +kernel, by decide +kernel, by decide +kernel, by decide +kernel, by decide +kernel,
    by decide +kernel⟩

theorem witness_CueEnds :
    RouteLaw { ramping 3 with cueTaken := fresh.cueTaken.set 0 true } ∧
    (ramping 3).cues[6] = .active ⟨0, 2, 0, 3, [(4, 100)]⟩ 3 0 0 ∧ (ramping 2).cues[6].rampLane? = some 0 ∧
    fresh.cues[6].rampLane? = none ∧ Ready 0 fresh ∧ (armed.cues[6]).isArmed = true ∧ Ready 0 armed :=
  ⟨by decide +kernel, by decide +kernel, by decide +kernel, by decide +kernel, by decide +kernel, by decide +kernel,
    by decide +kernel⟩

/-- A part whose lines hold the whole delay pool: 8 × 8,191 + 8. -/
def poolFull : State := { fresh with lines := Vector.ofFn fun n =>
  { Line.atReset with delay := if n.val < 8 then 8191 else if n.val = 8 then 8 else 0 } }

/-- A part whose line 63 has a delay of 3. -/
def delayed : State := { fresh with lines := fresh.lines.set 63 { Line.atReset with delay := 3, buffer := [1, 2, 3] } }

theorem witness_LineSetup :
    Ready 0 fresh ∧ refusal 0x12 (.lineSetup 0 64 0 0) fresh ∧ refusal 0x12 (.lineSetup 0 63 0 8192) fresh ∧
    refusal 0x11 (.lineSetup 0 63 0 8192) { fresh with op := .run } ∧ (63 : Fin 64).val = (63#8).toNat ∧
    refusal 0 (.lineSetup 0 63 65535 0) { fresh with op := .run } ∧ refusal 0x13 (.lineSetup 0 63 0 1) poolFull ∧
    refusal 0 (.lineSetup 0 8 0 8) poolFull := by unfold refusal; decide +kernel

/-- For the clause of LineSetup about a delay that is the present one, or a smaller one in CONFIG. -/
theorem witness_LineSetup_kept : LineLaw delayed ∧ LineLaw { delayed with op := .stopping } ∧ delayed.op = .config ∧
    delayed.lines[63].delay = (3#16).toNat ∧ (2#16).toNat < delayed.lines[63].delay :=
  ⟨by decide +kernel, by decide +kernel, rfl, rfl, by decide⟩

theorem witness_GoHaltAndLineMute :
    Ready 0 fresh ∧ refusal 0x12 (.lineMute 0 64 0) fresh ∧ refusal 0x12 (.lineMute 0 255 2) fresh ∧
    refusal 0 (.lineMute 0 63 1) fresh ∧ refusal 0 (.lineMute 0 255 0) fresh := by unfold refusal; decide +kernel

theorem witness_ConditionRequests :
    Ready 0 fresh ∧ Ready 0 raised ∧ (∀ i : Fin 12, fresh.conditions[i].latched = false) ∧
    raised.conditions[5].latched = true ∧ raised.conditions[5].enabled = true ∧
    (∀ j : Fin 12, j < 5 → raised.conditions[j].latched = false) ∧
    (∀ i : Fin 12, fresh.conditions[i].inService = false) ∧
    (after (.conditionTake 0) raised).conditions[5].inService = true ∧
    ∀ j : Fin 12, j < 5 → (after (.conditionTake 0) raised).conditions[j].inService = false :=
  ⟨by decide +kernel, by decide +kernel, by decide +kernel, by decide +kernel, by decide +kernel, by decide +kernel,
    by decide +kernel, by decide +kernel, by decide +kernel⟩

/-- For ReceiverBytes, FrameJudged and WireRoundTrip. -/
theorem witness_LinkFrames :
    ({ fresh with link := { fresh.link with rx := .collecting } } : State).link.rx = .collecting ∧
    fresh.link.rx ≠ .collecting ∧ fresh.link.rx = .idle ∧
    (([0x80, 0x03, 0x00, 0x11, 0x22] : List Byte) = 0x80 :: 0x03 :: 0x00 :: [] ++ [0x11, 0x22]) ∧
    ([0x11, 0x22] : List Byte).length = 2 ∧ ([] : List Byte).length ≤ 245 ∧ (List.replicate 245 0xF5#8).length ≤ 245 := by
  decide +kernel

/-- A part sending a reply, with n requests waiting. -/
def busy (n : Nat) : State := { fresh with
  link := { fresh.link with tx := some ⟨[0xF5], false⟩, queue := List.replicate n ⟨false, .go⟩ } }

theorem witness_RequestQueue :
    requested? (.go 3) = some (3, .go) ∧ (3 : Address) ≠ fresh.link.address ∧ (3 : Address) ≠ 15 ∧
    (0 : Address) = (busy 3).link.address ∧ (busy 3).link.tx ≠ none ∧ (busy 3).link.queue.length < 4 ∧
    4 ≤ (busy 4).link.queue.length ∧ requested? (.go 15) = some (15, .go) ∧ fresh.link.tx = none ∧
    fresh.link.queue = [] ∧ (busy 0).link.queue = [] ∧ (busy 0).link.tx = some ⟨[0xF5], false⟩ ∧
    (busy 2).link.queue = { broadcast := false, request := .go } :: [⟨false, .go⟩] ∧
    requested? (.unknownKind 3 0x99) = some (3, .unknown 0x99) ∧ Ready 0 fresh ∧ Request.go ≠ .restart := by
  decide +kernel

/-- A part sending a reply, with a broadcast at the head of its queue and a Status behind it. -/
def broadcast (q : Request) : State := { fresh with
  link := { fresh.link with tx := some ⟨[0xF5], false⟩, queue := [⟨true, q⟩, ⟨false, .status⟩] } }

/-- For the broadcasts of RequestQueue, and for the queued Status of LinkRequests: R152, R169. -/
theorem test_broadcast_at_the_head :
    (after .replyEnd (broadcast .go)).op = .starting ∧ ((after .replyEnd (broadcast .go)).link.queue = []) ∧
    (answer (after .replyEnd (broadcast .go))).take 4 = [0x80, 0x02, 0x1D, 0x00] ∧
    (after .replyEnd (broadcast .restart)).link = fresh.link := by decide +kernel

/-- A part that has collected a frame to its own address. -/
def collected (frame : List Byte) : State := { fresh with
  link := { fresh.link with rx := .collecting, buffer := frame ++ beBytes 2 (crc16 frame).toNat } }

/-- R170: an unknown kind, a length byte that disagrees, a length that the kind does not allow, and a Route Write whose
length does not agree with its pair count. -/
theorem test_generic_checks :
    refusal 0x1F .controlFrameEnd (collected [0x00, 0x99, 0x00]) ∧
    refusal 0x1E .controlFrameEnd (collected [0x00, 0x03, 0x01]) ∧
    refusal 0x1E .controlFrameEnd (collected [0x00, 0x03, 0x01, 0x00]) ∧
    refusal 0x1E .controlFrameEnd (collected [0x00, 0x40, 0x05, 0x02, 0x02, 0x04, 0x00, 0x00]) ∧
    refusal 0 .controlFrameEnd (collected [0x00, 0x40, 0x05, 0x02, 0x01, 0x04, 0x00, 0x00]) := by
  unfold refusal; decide +kernel

theorem witness_GenericChecks_frames :
    (collected [0x00, 0x03, 0x01]).link.rx = .collecting ∧ Ready ((0x00#8).setWidth 4) (collected [0x00, 0x03, 0x01]) ∧
    lengthAllowed 0x40 [0x02, 0x01, 0x04, 0x00, 0x00] ∧ ¬lengthAllowed 0x40 [0x02, 0x02, 0x04, 0x00, 0x00] ∧
    lengthAllowed 0x60 [1, 2, 3, 4, 5] ∧ ¬lengthAllowed 0x03 [0x00] := by decide +kernel

theorem witness_GenericChecks :
    Ready 0 fresh ∧ 0x99#8 ∉ kindTable ∧ 0x03#8 ∈ kindTable ∧ (1#8).toNat ≠ ([] : List Byte).length ∧
    (take (.lineSetup 64 0 0) fresh).2.status = .range := by decide +kernel

theorem witness_EgressFrameIsReceived : ∀ i : Fin 8, InRange (Vector.replicate 8 (-8388608 : Sample))[i] := by decide

theorem witness_Roundings : 0 < 3 ∧ 3 ≤ 3 ∧ 32768 ≤ 32768 := by decide

theorem witness_ArrivalTouches :
    fresh.hcu.watches (.port 0) = false ∧ (1 : Fin 6) ≠ 0 ∧ failing.lanes[1].primary = none ∧
    failing.lanes[1].alternate = none := by decide +kernel

/-- A step that every law's statement speaks of: a Go at the front of the queue. -/
def going (s : State) : State := { s with pending := [.go 0] }

/-- For every StepKeeps statement, with the law's own witness below. -/
theorem witness_StepKeeps_next (s : State) : ∃ t, step (going s) = .next t := ⟨_, rfl⟩

theorem witness_StepKeepsFaderLaw : FaderLaw (going fresh) := by decide +kernel

theorem witness_StepKeepsPortLaw :
    (∀ k : Fin 6, (going fresh).ports[k].Ranges) ∧ (∀ k : Fin 6, (going fresh).ports[k].ScoreLaw) ∧
    (∀ k : Fin 6, (going fresh).ports[k].WindowLaw) ∧ (∀ k : Fin 6, (going fresh).ports[k].ResamplerLaw) ∧
    ∀ k : Fin 6, (going fresh).ports[k].StepLaw (going fresh).hcu.rate :=
  ⟨by decide +kernel, by decide +kernel, by decide +kernel, by decide +kernel, by decide +kernel⟩

theorem witness_StepKeepsLaneLaw : LaneLaw (going fresh) := by decide +kernel
theorem witness_StepKeepsRouteLaw : RouteLaw (going (ramping 1)) := by decide +kernel
theorem witness_StepKeepsLineLaw : LineLaw (going fresh) := by decide +kernel
theorem witness_StepKeepsClockLaw : ClockLaw (going following) := by decide +kernel
theorem witness_StepKeepsLinkAndConditionLaws : LinkLaw (going fresh) ∧ ConditionLaw (going raised) := by decide +kernel
theorem witness_StepKeepsSampleLaw : SampleLaw (going fresh) := by
  unfold SampleLaw
  simp [going, fresh, State.reset, Port.atReset, Resampler.atReset, Line.atReset, zeroRings, Frame.zero]
  decide

end Sys2Proof.Tests
end

section
/-! SUPPORT. What the link hands on: a property that every request's effect keeps is kept by every operation of the
link; a row that is a request is that request's effect and its reply; and the requests that leave the house clock
unit's record alone. -/

namespace Sys2Proof.Machine

theorem foldl_kept {α : Type} {P : State → Prop} {g : State → α → State} (hg : ∀ t a, P t → P (g t a))
    (l : List α) {s : State} (hs : P s) : P (l.foldl g s) := by
  induction l generalizing s with
  | nil => exact hs
  | cons a l ih => exact ih (hg s a hs)

/-! ## The rows that are requests -/

/-- A row that is a request hands it to the link (R165). -/
theorem exec_requested {c : Instr} {dest : Address} {q : Request} (hq : requested? c = some (dest, q)) (s : State) :
    exec c s = .next (request dest q s) := by
  cases c <;> simp only [requested?, Option.some.injEq, Prod.mk.injEq, reduceCtorEq] at hq <;>
    obtain ⟨rfl, rfl⟩ := hq <;> rfl

/-! ## The link hands on what requests keep -/

/-- The properties that every request's effect, a Restart, and every change of the link's own record keep. -/
structure KeptByRequests (P : State → Prop) : Prop where
  take : ∀ (q : Request) (s : State), P s → P (take q s).1
  restart : ∀ s : State, P s → P (executeRestart s)
  withLink : ∀ (l : Link) (s : State), P s → P (s.withLink l)
  linkFault : ∀ (l : Link) (mark : BitVec 64) (s : State), P s → P (s.linkFault l mark)

namespace KeptByRequests
variable {P : State → Prop} (kept : KeptByRequests P) {s : State}
include kept

theorem serve (q : QueuedRequest) (hs : P s) : P (serve q s) := by
  have taken := kept.take q.request s hs
  simp only [Machine.serve]
  split
  · split
    · exact kept.restart _ taken
    · exact taken
  · exact kept.withLink _ _ taken

theorem takeWaiting (fuel : Nat) (hs : P s) : P (takeWaiting fuel s) := by
  induction fuel generalizing s with
  | zero => exact hs
  | succ fuel ih =>
    unfold Machine.takeWaiting
    split
    · exact ih (kept.serve _ (kept.withLink _ _ hs))
    · exact hs

theorem offer (q : QueuedRequest) (hs : P s) : P (offer q s) := by
  unfold Machine.offer
  split
  · exact kept.takeWaiting _ (kept.withLink _ _ hs)
  · exact kept.linkFault _ _ _ hs

theorem request (dest : Address) (q : Request) (hs : P s) : P (request dest q s) := by
  unfold Machine.request
  split
  · exact kept.offer _ hs
  split
  · exact kept.offer _ hs
  · exact hs

theorem judge (bytes : List Byte) (hs : P s) : P (judge bytes s) := by
  simp only [Machine.judge]
  split
  · exact hs
  split
  · exact kept.linkFault _ _ _ hs
  split
  · split
    · exact hs
    · exact kept.request _ _ hs
  · exact hs

theorem appendByte (b : Byte) (hs : P s) : P (appendByte b s) := by
  unfold Machine.appendByte
  split
  · exact kept.linkFault _ _ _ hs
  · exact kept.withLink _ _ hs

theorem endFrame (hs : P s) : P (endFrame s) := kept.judge _ (kept.withLink _ _ hs)

theorem linkByte (b : Byte) (stopBit : Bool) (hs : P s) : P (linkByte b stopBit s) := by
  have fault : P (linkFramingError s) := kept.linkFault _ _ _ hs
  have opened : P (openFrame s) := kept.withLink _ _ hs
  unfold Machine.linkByte
  cases s.link.rx with
  | idle => dsimp only; split <;> assumption
  | collecting =>
    dsimp only
    split
    · exact fault
    split
    · exact kept.endFrame hs
    split
    · exact kept.withLink _ _ hs
    · exact kept.appendByte _ hs
  | escaped =>
    dsimp only
    split
    · exact fault
    split
    · exact kept.appendByte _ hs
    split
    · exact kept.appendByte _ hs
    split <;> assumption

theorem replyEnd (hs : P s) : P (replyEnd s) := by
  unfold Machine.replyEnd
  split
  · exact hs
  · dsimp only
    split
    · exact kept.restart _ (kept.withLink _ _ hs)
    · exact kept.takeWaiting _ (kept.withLink _ _ hs)

end KeptByRequests

/-! ## The requests that leave the clock alone -/

section Takes
variable (s : State)

@[simp] theorem takeGo_hcu : (takeGo s).1.hcu = s.hcu := by
  unfold takeGo; split <;> simp
@[simp] theorem takeHalt_hcu : (takeHalt s).1.hcu = s.hcu := by
  unfold takeHalt; split <;> simp
@[simp] theorem takePortSetup_hcu (port enable rate latency window : Byte) :
    (takePortSetup port enable rate latency window s).1.hcu = s.hcu := by
  unfold takePortSetup; repeat' split
  all_goals simp
@[simp] theorem takePortAccept_hcu (port tag mask : Byte) : (takePortAccept port tag mask s).1.hcu = s.hcu := by
  unfold takePortAccept; split <;> simp
@[simp] theorem takePortQuery_hcu (port : Byte) : (takePortQuery port s).1.hcu = s.hcu := by
  unfold takePortQuery; split <;> rfl
@[simp] theorem takePortRevive_hcu (port : Byte) : (takePortRevive port s).1.hcu = s.hcu := by
  simp only [takePortRevive]; repeat' split
  all_goals simp
@[simp] theorem takeLaneBind_hcu (lane primary alternate mode : Byte) :
    (takeLaneBind lane primary alternate mode s).1.hcu = s.hcu := by
  unfold takeLaneBind; repeat' split
  all_goals simp
@[simp] theorem takeLaneSelect_hcu (lane choice : Byte) : (takeLaneSelect lane choice s).1.hcu = s.hcu := by
  simp only [takeLaneSelect]; repeat' split
  all_goals simp
@[simp] theorem takeLaneMute_hcu (lane flag : Byte) : (takeLaneMute lane flag s).1.hcu = s.hcu := by
  unfold takeLaneMute; split <;> simp
@[simp] theorem takeLaneQuery_hcu (lane : Byte) : (takeLaneQuery lane s).1.hcu = s.hcu := by
  unfold takeLaneQuery; split <;> rfl
@[simp] theorem takeRouteWrite_hcu (lane count : Byte) (pairs : List Pair) :
    (takeRouteWrite lane count pairs s).1.hcu = s.hcu := by
  unfold takeRouteWrite; repeat' split
  all_goals simp
@[simp] theorem takeRouteQuery_hcu (lane : Byte) : (takeRouteQuery lane s).1.hcu = s.hcu := by
  unfold takeRouteQuery; split <;> rfl
@[simp] theorem takeCueLoad_hcu (slot lane priority dueNow : Byte) (due : Word32) (ramp : Word16) (count : Byte)
    (pairs : List Pair) : (takeCueLoad slot lane priority dueNow due ramp count pairs s).1.hcu = s.hcu := by
  unfold takeCueLoad; repeat' split
  all_goals simp
@[simp] theorem takeCueAbort_hcu (slot : Byte) : (takeCueAbort slot s).1.hcu = s.hcu := by
  unfold takeCueAbort; repeat' split
  all_goals simp
@[simp] theorem takeCueAbortAll_hcu : (takeCueAbortAll s).1.hcu = s.hcu := by
  simp [takeCueAbortAll]
@[simp] theorem takeCueQuery_hcu (slot : Byte) : (takeCueQuery slot s).1.hcu = s.hcu := by
  unfold takeCueQuery; split <;> rfl
@[simp] theorem takeLineSetup_hcu (line : Byte) (trim delay : Word16) :
    (takeLineSetup line trim delay s).1.hcu = s.hcu := by
  simp only [takeLineSetup]; repeat' split
  all_goals simp
@[simp] theorem takeLineMute_hcu (line flag : Byte) : (takeLineMute line flag s).1.hcu = s.hcu := by
  unfold takeLineMute; repeat' split
  all_goals simp
@[simp] theorem takeLineQuery_hcu (line : Byte) : (takeLineQuery line s).1.hcu = s.hcu := by
  unfold takeLineQuery; split <;> rfl
@[simp] theorem takeConditionTake_hcu : (takeConditionTake s).1.hcu = s.hcu := by
  unfold takeConditionTake; split <;> rfl
@[simp] theorem takeConditionRelease_hcu : (takeConditionRelease s).1.hcu = s.hcu := by
  unfold takeConditionRelease; split <;> rfl
@[simp] theorem takeConditionMask_hcu (set : Word16) : (takeConditionMask set s).1.hcu = s.hcu := by
  unfold takeConditionMask; split <;> rfl
@[simp] theorem takeConditionClear_hcu (set : Word16) : (takeConditionClear set s).1.hcu = s.hcu := by
  unfold takeConditionClear; split <;> rfl

/-- Clock Rate and Clock Source are the only requests that change the clock's record. -/
theorem take_hcu {q : Request} (hrate : ∀ code, q ≠ .clockRate code) (hsource : ∀ code, q ≠ .clockSource code) :
    (take q s).1.hcu = s.hcu := by
  cases q with
  | clockRate code => exact absurd rfl (hrate code)
  | clockSource code => exact absurd rfl (hsource code)
  | _ =>
    simp [take, takeIdentify, takeStatus, takeCountersClear, takeClockQuery, takeCueSurvey, takeConditionSurvey]

end Takes

end Sys2Proof.Machine
end

section
/-! SUPPORT. The laws of the house clock unit: regime by regime, kept by each change of its record, by each operation
of the part, and so by every step. -/

namespace Sys2Proof.Machine

variable {h : Hcu}

/-! ## The clock's laws, regime by regime -/

/-- The part of the clock's laws that speaks of the candidate alone (R3, R5, R6, R8). -/
def Hcu.CandidateLaw (h : Hcu) : Prop :=
  h.candidate.isSome = h.candidateWatch.isSome ∧ (h.candidate = none ∨ h.candidate = external h.requested) ∧
  (h.goodCount = h.qualPeriods.length ∧ h.runSum = h.qualPeriods.sum ∧ h.goodCount ≤ 255 ∧
    AllGood h.rate h.qualPeriods) ∧
  (h.candidate = none → h.goodCount = 0)

/-- The part of the clock's laws that speaks of the stored periods (R6, R7, R8). -/
def Hcu.PeriodsLaw (h : Hcu) : Prop :=
  h.periods.length = 256 ∧ h.holdover = h.periods.sum ∧ AllGood h.rate h.periods

theorem Hcu.law_free_iff (hr : h.regime = .free) : h.Law ↔ h.CandidateLaw ∧ h.active = .internal ∧
    h.activeWatch = none ∧ h.candidate = external h.requested ∧ h.sampleEnd ≠ none ∧ h.holdBase = none := by
  simp [Hcu.Law, Hcu.CandidateLaw, hr, and_assoc, and_left_comm]

theorem Hcu.law_following_iff (hr : h.regime = .following) : h.Law ↔ h.CandidateLaw ∧ h.PeriodsLaw ∧
    h.active ≠ .internal ∧ h.activeWatch.isSome = true ∧ (h.candidate = none → h.requested = h.active) ∧
    h.holdBase = none := by
  simp [Hcu.Law, Hcu.CandidateLaw, Hcu.PeriodsLaw, hr, and_assoc, and_left_comm]

theorem Hcu.law_holdover_iff (hr : h.regime = .holdover) : h.Law ↔ h.CandidateLaw ∧ h.PeriodsLaw ∧
    h.active ≠ .internal ∧ h.activeWatch = none ∧ h.candidate.isSome = true ∧ h.sampleEnd ≠ none := by
  simp [Hcu.Law, Hcu.CandidateLaw, Hcu.PeriodsLaw, hr, and_assoc, and_left_comm]

/-! ## The source that a candidate is -/

theorem external_of_ne {src : ClockSource} (hs : src ≠ .internal) : external src = some src := by
  cases src <;> simp_all [external]

theorem external_eq (src : ClockSource) : external src = if src = .internal then none else some src := by
  cases src <;> simp [external]

/-- The candidate is the requested source, and never INTERNAL (R8). -/
theorem Hcu.Law.candidate_eq (hl : h.Law) {c : ClockSource} (hc : h.candidate = some c) :
    h.requested = c ∧ c ≠ .internal := by
  obtain ⟨-, -, -, hcand, -⟩ := hl
  rw [external_eq, hc] at hcand
  split at hcand <;> simp_all

/-! ## Each change of the clock's record keeps its laws -/

/-- A new candidate, or none, begins with count and run sum 0 (R8, R12, R13). -/
theorem Hcu.setCandidate_candidateLaw {c : Option ClockSource} (hc : c = none ∨ c = external h.requested) :
    (h.setCandidate c).CandidateLaw := by
  simp [Hcu.CandidateLaw, Hcu.setCandidate, hc, AllGood]

/-- The record after a boundary, field by field: the end and the base of the next boundary are the regime's own (R1,
R7, R9). -/
theorem Hcu.boundary_eq (t : Nat) (h : Hcu) : h.boundary t = { h with
    count := h.count + 1, now := t, sampleStart := t,
    sampleEnd :=
      match h.regime, h.holdBase with
      | .free, _ => some (t + h.rate.nominal)
      | .following, _ => none
      | .holdover, none => some (t + h.holdover / 256)
      | .holdover, some (b, n) => some (b + (n + 1) * h.holdover / 256),
    holdBase :=
      match h.regime, h.holdBase with
      | .holdover, none => some (t, 1)
      | .holdover, some (b, n) => some (b, n + 1)
      | _, _ => none } := by
  unfold Hcu.boundary
  cases h.regime with
  | free => rfl
  | following => rfl
  | holdover => cases h.holdBase <;> rfl

/-- A boundary keeps the clock's laws (R1, R7, R9). -/
theorem Hcu.Law.boundary (hl : h.Law) (t : Nat) : (h.boundary t).Law := by
  obtain ⟨h1, h2, h3, h4, h5, h6, h7, h8, h9, h10, -, -⟩ := hl
  rw [Hcu.boundary_eq]
  refine ⟨h1, h2, h3, h4, h5, h6, h7, h8, h9, h10, ?_, ?_⟩
  · cases hr : h.regime <;> cases h.holdBase <;> simp
  · cases hr : h.regime <;> simp

/-- An edge of the followed source begins a period (R4). -/
theorem Hcu.Law.setActiveWatch (hl : h.Law) (hr : h.regime = .following) (w : Watch) :
    Hcu.Law { h with activeWatch := some w } := by
  obtain ⟨hcand, hper, hact, -, hreq, hbase⟩ := (Hcu.law_following_iff hr).mp hl
  exact (Hcu.law_following_iff (by exact hr)).mpr ⟨hcand, hper, hact, rfl, hreq, hbase⟩

/-- An edge of the candidate begins a period (R4). -/
theorem Hcu.Law.setCandidateWatch (hl : h.Law) {c : ClockSource} (hc : h.candidate = some c) (w : Watch) :
    Hcu.Law { h with candidateWatch := some w } := by
  obtain ⟨h1, h2, -, h4⟩ := hl
  exact ⟨h1, h2, by simp [hc], h4⟩

/-- A loss of the candidate (R5). -/
theorem Hcu.Law.disqualify (hl : h.Law) {c : ClockSource} (hc : h.candidate = some c) (w : Watch) :
    (h.disqualify w).Law := by
  obtain ⟨h1, h2, -, h4, -, -, h7⟩ := hl
  exact ⟨h1, h2, by simp [Hcu.disqualify, hc], h4, by simp [Hcu.disqualify, AllGood], fun _ => rfl, h7⟩

/-- A good period of the candidate, short of the 256th (R5). -/
theorem Hcu.Law.qualify (hl : h.Law) {c : ClockSource} (hc : h.candidate = some c) {period : Nat}
    (hp : goodPeriod h.rate period = true) (hn : h.goodCount + 1 ≠ 256) : (h.qualify period).Law := by
  obtain ⟨h1, h2, -, h4, ⟨hlen, hsum, hle, hgood⟩, -, h7⟩ := hl
  refine ⟨h1, h2, by simp [Hcu.qualify, hc], h4, ⟨?_, ?_, ?_, ?_⟩, by simp [Hcu.qualify, hc], h7⟩
  · simp [Hcu.qualify, hlen]
  · simp [Hcu.qualify, hsum]
  · simp only [Hcu.qualify]; omega
  · simpa [Hcu.qualify, AllGood, or_imp, forall_and, hp] using hgood

/-- The candidate's 256th good period, and the part follows it (R5, R6). -/
theorem Hcu.Law.qualify_follow (hl : h.Law) {c : ClockSource} (hc : h.candidate = some c) {period : Nat}
    (hp : goodPeriod h.rate period = true) (hn : h.goodCount + 1 = 256) : ((h.qualify period).follow c).Law := by
  obtain ⟨hreq, hext⟩ := hl.candidate_eq hc
  obtain ⟨-, -, -, -, ⟨hlen, hsum, -, hgood⟩, -⟩ := hl
  rw [Hcu.law_following_iff rfl]
  refine ⟨by simp [Hcu.CandidateLaw, Hcu.follow, AllGood], ⟨?_, ?_, ?_⟩, hext, rfl, fun _ => hreq, rfl⟩
  · simpa [Hcu.follow, Hcu.qualify, ← hlen] using hn
  · simp [Hcu.follow, Hcu.qualify, hsum]
  · simpa [Hcu.follow, Hcu.qualify, AllGood, or_imp, forall_and, hp] using hgood

/-- A good period of the followed source replaces the oldest of the 256 (R7). -/
theorem Hcu.Law.followedPeriod (hl : h.Law) (hr : h.regime = .following) {period : Nat}
    (hp : goodPeriod h.rate period = true) : (h.followedPeriod period).Law := by
  obtain ⟨hcand, ⟨hlen, hsum, hgood⟩, hact, -, hreq, hbase⟩ := (Hcu.law_following_iff hr).mp hl
  refine (Hcu.law_following_iff (by exact hr)).mpr ⟨hcand, ⟨?_, ?_, ?_⟩, hact, rfl, hreq, hbase⟩
  · simp [Hcu.followedPeriod, hlen]
  · cases hps : h.periods with
    | nil => simp [hps] at hlen
    | cons p ps => simp [Hcu.followedPeriod, hsum, hps]; omega
  · intro p hmem
    simp only [Hcu.followedPeriod, List.mem_append, List.mem_singleton] at hmem
    rcases hmem with hmem | rfl
    · exact hgood p (List.mem_of_mem_drop hmem)
    · exact hp

/-- A loss of the followed source takes the part into HOLDOVER with a candidate (R8). -/
theorem Hcu.Law.lose (hl : h.Law) (hr : h.regime = .following) (atEdge : Bool) : (h.lose atEdge).Law := by
  obtain ⟨hcand, hper, hact, -, hreq, -⟩ := (Hcu.law_following_iff hr).mp hl
  unfold Hcu.lose
  by_cases hc : h.candidate.isSome = true
  · simp only [hc, if_true]
    exact (Hcu.law_holdover_iff rfl).mpr ⟨hcand, hper, hact, rfl, hc, by simp [Hcu.hold]⟩
  · have hreq' := hreq (by simpa using hc)
    have hext : external h.requested = some h.requested := external_of_ne (hreq' ▸ hact)
    have hnew : (h.hold.setCandidate (external h.requested)).Law :=
      (Hcu.law_holdover_iff rfl).mpr ⟨Hcu.setCandidate_candidateLaw (.inr rfl), hper, hact, rfl,
        by simp [Hcu.setCandidate, hext], by simp [Hcu.setCandidate, Hcu.hold]⟩
    simp only [hc, Bool.false_eq_true, if_false]
    split
    · simpa [Hcu.setCandidate, hext] using hnew.setCandidateWatch hext _
    · exact hnew

/-- A change to FREE under a new candidate or none (R10, R12, R13). -/
theorem Hcu.free_setCandidate_law (h : Hcu) : (h.free.setCandidate (external h.requested)).Law :=
  (Hcu.law_free_iff rfl).mpr
    ⟨Hcu.setCandidate_candidateLaw (.inr rfl), rfl, rfl, rfl, by simp [Hcu.setCandidate, Hcu.free], rfl⟩

theorem Hcu.changeRate_law (r : HouseRate) (h : Hcu) : (h.changeRate r).Law := Hcu.free_setCandidate_law _

/-- An accepted Clock Source INTERNAL (R13). -/
theorem Hcu.Law.requestInternal (hl : h.Law) : h.requestInternal.Law := by
  unfold Hcu.requestInternal
  split
  next hr =>
    obtain ⟨-, -, -, -, hend, hbase⟩ := (Hcu.law_free_iff hr).mp hl
    exact (Hcu.law_free_iff (by exact hr)).mpr
      ⟨Hcu.setCandidate_candidateLaw (h := { h with requested := .internal }) (.inl rfl), rfl, rfl, rfl, hend,
        hbase⟩
  next => exact Hcu.free_setCandidate_law { h with requested := .internal }

/-- An accepted Clock Source that names an external source (R13). -/
theorem Hcu.Law.request (hl : h.Law) {src : ClockSource} (hs : src ≠ .internal) : (h.request src).Law := by
  unfold Hcu.request
  split
  next hf =>
    obtain ⟨rfl, hr⟩ := hf
    obtain ⟨-, hper, hact, hwatch, -, hbase⟩ := (Hcu.law_following_iff hr).mp hl
    split
    · exact (Hcu.law_following_iff (by exact hr)).mpr
        ⟨Hcu.setCandidate_candidateLaw (h := { h with requested := h.active }) (.inl rfl), hper, hact, hwatch,
          fun _ => rfl, hbase⟩
    · exact hl
  next =>
    obtain ⟨h1, h2, -, -, -, -, h7, -, -, -, h11⟩ := hl
    have hext := (external_of_ne hs).symm
    exact ⟨h1, h2, rfl, .inr hext, by simp [Hcu.setCandidate, AllGood], fun _ => rfl, h7, fun _ => hext, fun _ => rfl,
      nofun, h11⟩

theorem Hcu.atReset_law : Hcu.atReset.Law := by decide

theorem Hcu.restart_law (h : Hcu) : h.restart.Law :=
  (Hcu.law_free_iff rfl).mpr
    ⟨Hcu.setCandidate_candidateLaw (.inr rfl), rfl, rfl, rfl, by simp [Hcu.restart, Hcu.setCandidate], rfl⟩

/-! ## Settling, at the level of the state -/

theorem settle_clockLaw {s : State} (hl : ClockLaw s) : ClockLaw (settle s) := by
  unfold settle
  split
  · simpa only [ClockLaw, endSample_hcu] using hl.boundary _
  · exact hl

theorem referenceLoss_clockLaw {s : State} (hl : ClockLaw s) (hr : s.hcu.regime = .following) (atEdge : Bool) :
    ClockLaw (referenceLoss atEdge s) :=
  settle_clockLaw (by simpa [ClockLaw] using hl.lose hr atEdge)

/-- The watch on the followed source is there in FOLLOWING alone (R3). -/
theorem Hcu.followedWatch_eq_some {src : ClockSource} {h : Hcu} {w : Watch} :
    h.followedWatch src = some w ↔ h.regime = .following ∧ h.active = src ∧ h.activeWatch = some w := by
  simp [Hcu.followedWatch, and_assoc]

theorem Hcu.qualifyingWatch_eq_some {src : ClockSource} {h : Hcu} {w : Watch} :
    h.qualifyingWatch src = some w ↔ h.candidate = some src ∧ h.candidateWatch = some w := by
  simp [Hcu.qualifyingWatch]

theorem followedEdge_clockLaw {s : State} (hl : ClockLaw s) (hr : s.hcu.regime = .following) (w : Watch) :
    ClockLaw (followedEdge w s) := by
  unfold followedEdge
  cases w.lastEdge with
  | none => exact hl.setActiveWatch hr _
  | some t =>
    by_cases hp : goodPeriod s.hcu.rate (s.hcu.now - t) = true
    · simp only [hp, if_true]
      exact settle_clockLaw (hl.followedPeriod hr hp)
    · simp only [hp, Bool.false_eq_true, if_false]
      exact referenceLoss_clockLaw hl hr true

/-- What the completion of a qualification does: it follows the candidate of 256 good periods, and does nothing
otherwise (R6). -/
theorem qualificationComplete_of_candidate {s : State} {c : ClockSource} (hc : s.hcu.candidate = some c) :
    qualificationComplete s =
      if s.hcu.goodCount = 256 then
        settle (restartNotice ((s.withHcu (s.hcu.follow c)).raise .clockFollow (sourceBit c)))
      else s := by
  simp only [qualificationComplete, hc]

theorem qualificationComplete_clockLaw {s : State} (hl : ClockLaw s) : ClockLaw (qualificationComplete s) := by
  cases hc : s.hcu.candidate with
  | none => simpa only [qualificationComplete, hc] using hl
  | some c =>
    have hle : s.hcu.goodCount ≤ 255 := by
      obtain ⟨-, -, -, -, ⟨-, -, hle, -⟩, -⟩ := hl
      exact hle
    rw [qualificationComplete_of_candidate hc, if_neg (by omega)]
    exact hl

theorem candidateEdge_clockLaw {s : State} (hl : ClockLaw s) {c : ClockSource} (hc : s.hcu.candidate = some c)
    (w : Watch) : ClockLaw (candidateEdge w s) := by
  unfold candidateEdge
  cases w.lastEdge with
  | none => exact hl.setCandidateWatch hc _
  | some t =>
    by_cases hp : goodPeriod s.hcu.rate (s.hcu.now - t) = true
    · simp only [hp, if_true]
      rw [qualificationComplete_of_candidate (c := c) (by exact hc)]
      split
      next hn => exact settle_clockLaw (by simpa [ClockLaw] using hl.qualify_follow hc hp hn)
      next hn => exact hl.qualify hc hp hn
    · simp only [hp, Bool.false_eq_true, if_false]
      exact hl.disqualify hc _

theorem referenceEdge_clockLaw {s : State} (hl : ClockLaw s) (src : ClockSource) : ClockLaw (referenceEdge src s) := by
  unfold referenceEdge
  split
  next w hw => exact followedEdge_clockLaw hl (Hcu.followedWatch_eq_some.mp hw).1 w
  next =>
    split
    next w hw => exact candidateEdge_clockLaw hl (Hcu.qualifyingWatch_eq_some.mp hw).1 w
    next => exact hl

theorem watchSilence_clockLaw {s : State} (hl : ClockLaw s) (src : ClockSource) : ClockLaw (watchSilence src s) := by
  unfold watchSilence
  split
  next w hw =>
    split
    · exact referenceLoss_clockLaw hl (Hcu.followedWatch_eq_some.mp hw).1 false
    · exact hl
  next =>
    split
    next w hw =>
      split
      · exact hl.disqualify (Hcu.qualifyingWatch_eq_some.mp hw).1 _
      · exact hl
    next => exact hl

theorem arrive_clockLaw {s : State} (hl : ClockLaw s) (k : Fin 6) (body : List Byte) : ClockLaw (arrive k body s) := by
  have edge : ClockLaw (referenceEdge (.port k) { s with draws := s.draws + 1 }) :=
    referenceEdge_clockLaw (by exact hl) _
  simp only [arrive]
  split
  · exact hl
  split
  · simpa only [ClockLaw, portArrival_hcu] using hl
  split
  · simpa only [ClockLaw, portArrival_hcu] using edge
  · exact referenceEdge_clockLaw (by simpa only [ClockLaw, portArrival_hcu] using hl) _

theorem ingressByte_clockLaw {s : State} (hl : ClockLaw s) (k : Fin 6) (b : Byte) : ClockLaw (ingressByte k b s) := by
  unfold ingressByte
  split
  · split <;> exact hl
  · split
    · exact arrive_clockLaw (by exact hl) k _
    · exact hl

/-! ## The requests that change the clock -/

theorem takeClockRate_clockLaw {s : State} (hl : ClockLaw s) (code : Byte) : ClockLaw (takeClockRate code s).1 := by
  unfold takeClockRate
  split
  · exact hl
  split
  · exact hl
  next r _ =>
    split
    · exact hl
    · refine settle_clockLaw ?_
      split
      · exact Hcu.changeRate_law r s.hcu
      · exact Hcu.changeRate_law r s.hcu

theorem takeClockSource_clockLaw {s : State} (hl : ClockLaw s) (code : Byte) :
    ClockLaw (takeClockSource code s).1 := by
  unfold takeClockSource
  split
  · exact hl
  next src _ =>
    split
    · exact hl
    split
    · dsimp only
      split
      · exact hl.requestInternal
      · exact settle_clockLaw hl.requestInternal
    next hs => exact hl.request hs

theorem take_clockLaw {s : State} (hl : ClockLaw s) (q : Request) : ClockLaw (take q s).1 := by
  cases q with
  | clockRate code => exact takeClockRate_clockLaw hl code
  | clockSource code => exact takeClockSource_clockLaw hl code
  | _ =>
    rw [ClockLaw, take_hcu s (by simp) (by simp)]
    exact hl

/-! ## Every command -/

theorem clockLaw_keptByRequests : KeptByRequests ClockLaw where
  take q _ hs := take_clockLaw hs q
  restart s _ := s.hcu.restart_law
  withLink _ _ hs := hs
  linkFault _ _ _ hs := hs

@[simp] theorem pinReset_hcu (s : State) : (pinReset s).hcu = Hcu.atReset := rfl

@[simp] theorem arrivalAtShut_hcu (s : State) (f : FaderId) : (arrivalAtShut f s).hcu = s.hcu := by
  cases f with
  | port k => simp only [arrivalAtShut]; split <;> simp
  | lane n => simp only [arrivalAtShut]; split <;> simp
  | line n => rfl

/-- Every command answers a state that keeps the clock's laws. -/
theorem exec_clockLaw {s : State} (hl : ClockLaw s) (c : Instr) : ∃ t, exec c s = .next t ∧ ClockLaw t := by
  have kept := clockLaw_keptByRequests
  have same {t : State} (ht : t.hcu = s.hcu) : ClockLaw t := by rwa [ClockLaw, ht]
  cases hq : requested? c with
  | some q => exact ⟨_, exec_requested hq s, kept.request _ _ hl⟩
  | none =>
    cases c with
    | pinReset => exact ⟨pinReset s, rfl, by simpa only [ClockLaw, pinReset_hcu] using Hcu.atReset_law⟩
    | houseSample => exact ⟨endSample s, rfl, by simpa only [ClockLaw, endSample_hcu] using hl.boundary _⟩
    | wordclockEdge => exact ⟨_, rfl, referenceEdge_clockLaw hl .wordclock⟩
    | watchSilence src => exact ⟨_, rfl, watchSilence_clockLaw hl src⟩
    | qualificationComplete => exact ⟨_, rfl, qualificationComplete_clockLaw hl⟩
    | frameArrival k bytes =>
      exact ⟨_, rfl, foldl_kept (P := ClockLaw) (fun _ b ht => ingressByte_clockLaw ht k b) bytes hl⟩
    | frameTimeout k => exact ⟨_, rfl, same (frameTimeout_hcu s k)⟩
    | windowComplete k => exact ⟨_, rfl, same (windowComplete_hcu s k)⟩
    | seedingEntry k => exact ⟨_, rfl, same (seedingEntry_hcu s k)⟩
    | arrivalAtShut f => exact ⟨_, rfl, same (arrivalAtShut_hcu s f)⟩
    | arrivalAtOpen f => exact ⟨_, rfl, hl⟩
    | cueActivation n => exact ⟨_, rfl, same (activateLane_hcu s n)⟩
    | cueCompletion i => exact ⟨_, rfl, same (completeCue_hcu s i)⟩
    | controlFrameEnd => exact ⟨_, rfl, by split <;> [exact kept.endFrame hl; exact hl]⟩
    | framingError => exact ⟨_, rfl, same (by split <;> rfl)⟩
    | abort => exact ⟨_, rfl, kept.linkByte _ _ (kept.linkByte _ _ hl)⟩
    | replyEnd => exact ⟨_, rfl, kept.replyEnd hl⟩
    | restartExecute =>
      refine ⟨_, rfl, ?_⟩
      split
      · split
        · exact kept.restart s hl
        · exact hl
      · exact hl
    | syncWord k => exact ⟨_, rfl, ingressByte_clockLaw (ingressByte_clockLaw hl k _) k _⟩
    | requestPairByte b stopBit => exact ⟨_, rfl, kept.linkByte b stopBit hl⟩
    | _ => simp [requested?] at hq

theorem passTime_clockLaw {s : State} (hl : ClockLaw s) : ClockLaw (passTime s) := by
  unfold passTime
  split <;> exact hl

/-- Settles O58: a step runs the command at the queue's front or lets time pass, and both keep the clock's laws. -/
theorem stepKeepsClockLaw : Obligations.StepKeepsClockLaw := by
  intro s t hl ht
  unfold step at ht
  split at ht
  next => exact Host.Outcome.next.inj ht ▸ passTime_clockLaw hl
  next c rest _ =>
    obtain ⟨u, hu, keeps⟩ := exec_clockLaw (s := { s with pending := rest }) hl c
    exact Host.Outcome.next.inj (hu.symm.trans ht) ▸ keeps

end Sys2Proof.Machine
end

section
/-! SUPPORT. The events of the house clock unit: the house sample, the watches on a candidate and on the followed
source, and the end of a qualification. -/

namespace Sys2Proof.Machine

/-! ## The house sample event -/

/-- Settles O5: the record after the event is the boundary's, made at the end set for the house sample. -/
theorem houseSampleClock : Obligations.HouseSampleClock := by
  refine ⟨⟨rfl, rfl⟩, fun s => ⟨endSample s, rfl, rfl, ?_, houseSample_tickCounter _, endSample_link s, ?_,
    endSample_pending s⟩⟩
  · exact (endSample_hcu s).trans (Hcu.boundary_eq _ _)
  · rw [endSample, houseSample_draws]

/-! ## The watch on a candidate -/

/-- An edge or a silence of a source that is not followed concerns the candidate's watch alone (R3). -/
theorem Hcu.followedWatch_of_not_followed {h : Hcu} {src : ClockSource}
    (hn : h.regime ≠ .following ∨ h.active ≠ src) : h.followedWatch src = none := by
  rw [Hcu.followedWatch, if_neg]
  tauto

theorem goodPeriod_iff {r : HouseRate} {p : Nat} :
    goodPeriod r p = true ↔ r.nominal - r.nominal / 256 ≤ p ∧ p ≤ r.nominal + r.nominal / 256 := by
  simp [goodPeriod]

theorem Watch.silent_iff {w : Watch} {r : HouseRate} {t : Nat} : w.silent r t = true ↔ w.since + 2 * r.nominal ≤ t := by
  simp [Watch.silent]

/-- Settles O13, by the cases of the watch's last edge and of the period that the edge closes. -/
theorem candidateWatch : Obligations.CandidateWatch := by
  refine ⟨fun _ => rfl, fun s src hn => ?_⟩
  have hf := Hcu.followedWatch_of_not_followed hn
  have silence : exec (.watchSilence src) s = .next (watchSilence src s) := rfl
  rw [silence, watchSilence, referenceEdge, hf]
  dsimp only
  refine ⟨fun hc => ?_, fun w hc hw => ?_⟩
  · rw [Hcu.qualifyingWatch, if_neg hc]
    exact ⟨rfl, rfl⟩
  · rw [Hcu.qualifyingWatch_eq_some.mpr ⟨hc, hw⟩]
    dsimp only
    refine ⟨?_, ?_⟩
    · simp only [Watch.silent_iff]
      rfl
    · unfold candidateEdge
      cases w.lastEdge with
      | none => rfl
      | some e =>
        simp only [goodPeriod_iff]
        split
        · split
          next => rfl
          next hn => exact (qualificationComplete_of_candidate (by exact hc)).trans (if_neg hn)
        · rfl

/-! ## Ends at once -/

/-- A house sample whose end has come ends within the same command. -/
theorem settle_of_le {s : State} {e : Nat} (he : s.hcu.sampleEnd = some e) :
    settle s = if e ≤ s.hcu.now then houseSample (timeoutsFirst s) else s := by
  simp [settle, Hcu.sampleOver, he, endSample]

theorem settle_of_now {s : State} (he : s.hcu.sampleEnd = some s.hcu.now) :
    settle s = houseSample (timeoutsFirst s) := by
  rw [settle_of_le he, if_pos (le_refl _)]

theorem settle_of_none {s : State} (he : s.hcu.sampleEnd = none) : settle s = s := by
  simp [settle, Hcu.sampleOver, he]

theorem PortState.writes_iff {st : PortState} : st.writes = true ↔ st = .seeding ∨ st = .locked := by
  cases st <;> simp [PortState.writes]

/-- A restart notice, port by port: a tracker of a SEEDING or LOCKED port waits (R11, R48). -/
theorem restartNotice_eq (s : State) : restartNotice s = { s with ports := Vector.ofFn fun k =>
    if s.ports[k].state = .seeding ∨ s.ports[k].state = .locked then
      { s.ports[k] with tracker := { s.ports[k].tracker with window := .waiting } }
    else s.ports[k] } := by
  simp only [restartNotice, mapAll, Port.notice, PortState.writes_iff]

/-! ## The end of a qualification -/

theorem sourceBit_eq (c : ClockSource) : sourceBit c =
    1#64 <<< (match c with | .internal => 0 | .wordclock => 1 | .port k => k.val + 2 : Nat) := by
  cases c with
  | internal => rfl
  | wordclock => rfl
  | port k => fin_cases k <;> rfl

/-- The house sample in progress ends at once if it has lasted half the nominal period, and else at the next good edge
(R6, R10). -/
theorem settle_of_follow {s t : State} {c : ClockSource} (ht : t.hcu = s.hcu.follow c) : settle t =
    if s.hcu.rate.nominal / 2 ≤ s.hcu.now - s.hcu.sampleStart then houseSample (timeoutsFirst t) else t := by
  split
  next late => rw [settle_of_le (e := s.hcu.now) (by simp [ht, Hcu.follow, late]), if_pos (by simp [ht, Hcu.follow])]
  next early => exact settle_of_none (by simp [ht, Hcu.follow, early])

/-- Settles O15: the completion follows the candidate, and what it leaves settles by how long the house sample in
progress has lasted. -/
theorem qualificationCompletes : Obligations.QualificationCompletes := by
  intro s c hc
  have complete : exec .qualificationComplete s = .next (qualificationComplete s) := rfl
  rw [complete, qualificationComplete_of_candidate hc]
  refine ⟨fun hn => ?_, fun hn => by rw [if_neg hn]⟩
  rw [if_pos hn, settle_of_follow (s := s) (c := c) rfl, restartNotice_eq, sourceBit_eq]
  rfl

/-! ## The watch on the followed source -/

/-- The record after a loss under the clock's laws: the requested source becomes the candidate if there was none, and
it is then the lost source, so it is external (R8). -/
theorem Hcu.Law.lose_eq {h : Hcu} (hl : h.Law) (hr : h.regime = .following) (edge : Bool) : h.lose edge =
    if h.candidate.isSome ∨ h.requested = .internal then h.hold
    else { h.hold with
      candidate := some h.requested, goodCount := 0, runSum := 0, qualPeriods := [],
      candidateWatch := some (if edge ∧ h.requested = h.active then ⟨some h.now, h.now⟩ else ⟨none, h.now⟩) } := by
  obtain ⟨-, -, hact, -, hreq, -⟩ := (Hcu.law_following_iff hr).mp hl
  unfold Hcu.lose
  by_cases hc : h.candidate.isSome = true
  · simp [hc]
  · have hext : h.requested ≠ .internal := hreq (by simpa using hc) ▸ hact
    simp only [hc, hext, external_of_ne hext, Bool.false_eq_true, or_self, if_false]
    split <;> rfl

theorem Hcu.lose_end (edge : Bool) (h : Hcu) : (h.lose edge).now = h.now ∧
    (h.lose edge).sampleEnd = some (max (h.sampleStart + h.holdover / 256) h.now) := by
  simp only [Hcu.lose]
  repeat' split
  all_goals exact ⟨rfl, rfl⟩

/-- A raise with no items latches the condition and leaves its details (R154). -/
theorem raise_clockLost (s : State) : s.raise .clockLost 0 = { s with
    conditions := s.conditions.set 0 { s.conditions[0] with latched := true } } := by
  simp [State.raise, modifyAt, Cond.index, Condition.raise]

/-- A loss of the followed source: Clock Lost, the restart notice, and the end of the house sample in progress at once
where T0 + floor(M / 256) is past (R8, R10, R11). -/
theorem referenceLoss_eq (edge : Bool) (s : State) : referenceLoss edge s =
    let lost : State := { s with
      hcu := s.hcu.lose edge,
      ports := Vector.ofFn fun k =>
        if s.ports[k].state = .seeding ∨ s.ports[k].state = .locked then
          { s.ports[k] with tracker := { s.ports[k].tracker with window := .waiting } }
        else s.ports[k],
      conditions := s.conditions.set 0 { s.conditions[0] with latched := true } }
    if s.hcu.sampleStart + s.hcu.holdover / 256 ≤ s.hcu.now then houseSample (timeoutsFirst lost) else lost := by
  obtain ⟨hnow, hend⟩ := Hcu.lose_end edge s.hcu
  rw [referenceLoss, raise_clockLost, restartNotice_eq, settle_of_le (by exact hend)]
  simp only [State.withHcu, hnow, max_le_iff, le_refl, and_true]
  rfl

/-- Settles O14: the good periods by the case of the watch's last edge, the losses through `referenceLoss_eq`. -/
theorem followedWatch : Obligations.FollowedWatch := by
  refine ⟨fun s w hr hw => ?_, fun s w hr hw => ?_⟩
  · have edged : referenceEdge s.hcu.active s = followedEdge w s := by
      rw [referenceEdge, Hcu.followedWatch_eq_some.mpr ⟨hr, rfl, hw⟩]
    refine ⟨fun ha => by rw [ha]; rfl, ?_⟩
    rw [edged, followedEdge]
    cases w.lastEdge with
    | none => rfl
    | some e =>
      intro hlow hhigh
      dsimp only
      rw [if_pos (goodPeriod_iff.mpr ⟨hlow, hhigh⟩), settle_of_now (by rfl)]
      refine ⟨rfl, ?_, ?_⟩
      · simp [Hcu.boundary_eq, Hcu.followedPeriod]
      · simp [Hcu.boundary_eq, Hcu.boundaryInstant, Hcu.followedPeriod]
  · intro h held lost ended hl
    have loss (edge : Bool) : referenceLoss edge s = ended (lost edge) := by
      rw [referenceLoss_eq, hl.lose_eq hr]
      rfl
    have silence : exec (.watchSilence h.active) s =
        .next (if w.silent h.rate h.now then referenceLoss false s else s) := by
      rw [show exec (.watchSilence h.active) s = .next (watchSilence h.active s) from rfl, watchSilence,
        Hcu.followedWatch_eq_some.mpr ⟨hr, rfl, hw⟩]
    refine ⟨fun e he hbad => ?_, fun hdue => ?_, fun hearly => ?_⟩
    · rw [referenceEdge, Hcu.followedWatch_eq_some.mpr ⟨hr, rfl, hw⟩]
      simp only [followedEdge, he]
      rw [if_neg (by rwa [goodPeriod_iff]), loss]
    · rw [silence, if_pos (Watch.silent_iff.mpr hdue), loss]
    · rw [silence, if_neg (by rw [Watch.silent_iff]; omega)]

end Sys2Proof.Machine
end

section
/-! SUPPORT. The requests of the house clock unit, and the three queries that read records: each for a part that is
ready to answer. -/

namespace Sys2Proof.Machine

/-! ## What a ready part answers -/

/-- A request other than Restart, put to a ready part, has its effect and begins its reply (R169). -/
theorem exec_answers {c : Instr} {dest : Address} (q : Request) {s t : State} {r : Reply} (h : Ready dest s)
    (hc : requested? c = some (dest, q)) (hq : q ≠ .restart) (ht : take q s = (t, r)) :
    exec c s = .next (t.replying (kindOf q) r.status r.content) := by
  rw [exec_requested hc, request_replying h hq, ht]

@[simp] theorem firstRefusal_nil : firstRefusal [] = none := rfl

/-- The first check that refuses decides (section 6.5 of 00_scope.md). -/
@[simp] theorem firstRefusal_cons (refuses : Bool) (status : Status) (checks : List (Bool × Status)) :
    firstRefusal ((refuses, status) :: checks) = if refuses then some status else firstRefusal checks := by
  cases refuses <;> rfl

/-! ## Clock Rate -/

/-- The house rate codes are 0 and 1 (section 1.10). -/
theorem houseRateOf_eq (code : Byte) :
    houseRateOf code = if 1 < code.toNat then none else some (if code = 0 then .k48 else .k96) := by
  by_cases h0 : code = 0
  · rw [h0]; rfl
  by_cases h1 : code = 1
  · rw [h1]; rfl
  have hr : 1 < code.toNat := by bv_omega
  simp only [houseRateOf, h0, h1, hr, if_false, if_true]

/-- Where no port is in SEEDING or LOCKED, no frame timeout comes before the house sample event (R26). -/
theorem timeoutsFirst_of_not_writes {s : State} (hw : ∀ k : Fin 6, s.ports[k].state.writes = false) :
    timeoutsFirst s = s := by
  have none : boundaryTimeouts s = [] := by
    simp only [boundaryTimeouts, timedOut, hw, Bool.false_and, List.filter_false]
  rw [timeoutsFirst, none]
  rfl

/-- Where no port is in SEEDING or LOCKED, a restart notice reaches no tracker (R11). -/
theorem restartNotice_of_not_writes {s : State} (hw : ∀ k : Fin 6, s.ports[k].state.writes = false) :
    restartNotice s = s := by
  have same : mapAll s.ports Port.notice = s.ports := by
    ext k hk
    have := hw ⟨k, hk⟩
    simp_all [Port.notice]
  rw [restartNotice, same]

@[simp] theorem Port.closeFader_state (p : Port) : p.closeFader.state = p.state := by
  simp only [Port.closeFader]; split <;> rfl

@[simp] theorem Port.enter_state (st : PortState) (p : Port) : (p.enter st).state = st := by
  simp only [Port.enter]; split <;> simp

/-- After a change of house rate a lawful port is OFF, BARRED or in HUNT (R12). -/
theorem Port.rateChanged_not_writes {p : Port} (hp : p.ScoreLaw) : p.rateChanged.state.writes = false := by
  obtain ⟨hoff, -⟩ := hp
  unfold Port.rateChanged
  split
  next => simp [PortState.writes]
  next hn =>
    by_cases he : p.enable = true
    · have : p.state = .barred := by simpa [he] using hn
      simp [this, PortState.writes]
    · simp [hoff.mp (by simpa using he), PortState.writes]

/-- The record after a change of house rate (R10, R12). -/
theorem Hcu.changeRate_eq (r : HouseRate) (h : Hcu) : h.changeRate r = { h with
    rate := r, holdover := 256 * r.nominal, regime := .free, active := .internal, activeWatch := none,
    goodCount := 0, runSum := 0, qualPeriods := [], holdBase := none,
    candidate := if h.requested = .internal then none else some h.requested,
    candidateWatch := if h.requested = .internal then none else some ⟨none, h.now⟩,
    sampleEnd := some (max (h.sampleStart + r.nominal) h.now) } := by
  simp only [Hcu.changeRate, Hcu.free, Hcu.setCandidate, external_eq]
  split <;> rfl

/-- An end that T0 sets, or now if that is past, has come exactly where T0's is past (R10). -/
theorem settle_of_max {s : State} {e : Nat} (he : s.hcu.sampleEnd = some (max e s.hcu.now)) :
    settle s = if e ≤ s.hcu.now then houseSample (timeoutsFirst s) else s := by
  simp [settle_of_le he]

/-- In CONFIG a code in range changes the house rate where it names another (R12). -/
theorem takeClockRate_of_config {code : Byte} {r : HouseRate} {s : State} (hop : s.op = .config)
    (hr : houseRateOf code = some r) : takeClockRate code s =
      if r = s.hcu.rate then (s, .done)
      else
        let changed := (s.withPorts (mapAll s.ports Port.rateChanged)).withHcu (s.hcu.changeRate r)
        (settle (if s.hcu.regime = .free then changed else restartNotice changed), .done) := by
  simp only [takeClockRate, hop, hr, ne_eq, not_true_eq_false, if_false]

/-- A new rate, with every port lawful: no port is left in SEEDING or LOCKED, so no tracker takes notice and no timeout
comes before the house sample's end (R11, R12, R26). -/
theorem takeClockRate_new {code : Byte} {r : HouseRate} {s : State} (hop : s.op = .config)
    (hr : houseRateOf code = some r) (hnew : r ≠ s.hcu.rate) (hp : PortLaw s) : takeClockRate code s =
      let changed := (s.withPorts (mapAll s.ports Port.rateChanged)).withHcu (s.hcu.changeRate r)
      (if s.hcu.sampleStart + r.nominal ≤ s.hcu.now then houseSample changed else changed, .done) := by
  have silent : ∀ k : Fin 6, ((s.withPorts (mapAll s.ports Port.rateChanged)).withHcu
      (s.hcu.changeRate r)).ports[k].state.writes = false := by
    intro k
    obtain ⟨-, score, -⟩ := hp k
    simpa using Port.rateChanged_not_writes score
  rw [takeClockRate_of_config hop hr, if_neg hnew]
  dsimp only
  rw [restartNotice_of_not_writes silent, ite_self, settle_of_max (e := s.hcu.sampleStart + r.nominal) (by rfl),
    timeoutsFirst_of_not_writes silent]
  rfl

/-- Settles O16: R12's checks in order, then its two cases. -/
theorem clockRateRequest : Obligations.ClockRateRequest := by
  intro dest code s h
  have answers {t : State} {r : Reply} (ht : takeClockRate code s = (t, r)) :
      exec (.clockRate dest code) s = .next (t.replying 0x10 r.status r.content) :=
    exec_answers (.clockRate code) h rfl (by simp) ht
  simp only [firstRefusal_cons, firstRefusal_nil]
  by_cases hop : s.op = .config
  swap
  · simp only [hop, ne_eq, not_false_eq_true, decide_true, if_true]
    exact answers (by rw [takeClockRate, if_pos hop])
  have hcode := houseRateOf_eq code
  by_cases hr : 1 < code.toNat
  · rw [if_pos hr] at hcode
    simp only [hop, hr, ne_eq, not_true_eq_false, decide_true, decide_false, if_true]
    exact answers (by simp only [takeClockRate, hop, hcode]; rfl)
  rw [if_neg hr] at hcode
  simp only [hop, hr, ne_eq, not_true_eq_false, decide_false, Bool.false_eq_true, if_false]
  generalize (if code = 0 then HouseRate.k48 else .k96) = rate at hcode ⊢
  by_cases same : rate = s.hcu.rate
  · rw [if_pos same]
    exact answers (by rw [takeClockRate_of_config hop hcode, if_pos same])
  · rw [if_neg same]
    intro hp
    rw [answers (takeClockRate_new hop hcode same hp), Hcu.changeRate_eq]
    rfl

/-! ## Clock Source -/

theorem sourceOf_of_lt {code : Byte} (hc : 7 < code.toNat) : sourceOf code = none := by
  have h0 : code ≠ 0 := by bv_omega
  have h1 : code ≠ 1 := by bv_omega
  have h2 : ¬(code - 2).toNat < 6 := by bv_omega
  simp only [sourceOf, index, h0, h1, h2, if_false, dite_false]

theorem sourceOf_sourceCode (src : ClockSource) : sourceOf (sourceCode src) = some src := by
  cases src with
  | internal => rfl
  | wordclock => rfl
  | port k => fin_cases k <;> rfl

theorem wrongRate_iff {s : State} {src : ClockSource} : wrongRate s src = true ↔
    ∃ k, src = .port k ∧ s.ports[k].rateCode.hertz ≠ s.hcu.rate.hertz := by
  cases src <;> simp [wrongRate]

/-- A Clock Source that names an external source (R13). -/
theorem takeClockSource_external {code : Byte} {src : ClockSource} {s : State} (hcode : sourceOf code = some src)
    (hs : src ≠ .internal) : takeClockSource code s =
      if wrongRate s src then (s, .refuse .range) else (s.withHcu (s.hcu.request src), .done) := by
  simp only [takeClockSource, hcode, hs, if_false]

/-- A Clock Source INTERNAL (R13). -/
theorem takeClockSource_internal {code : Byte} {s : State} (hcode : sourceOf code = some .internal) :
    takeClockSource code s = (if s.hcu.regime = .free then s.withHcu s.hcu.requestInternal
      else settle (restartNotice (s.withHcu s.hcu.requestInternal)), .done) := by
  simp only [takeClockSource, hcode, wrongRate, Bool.false_eq_true, if_false, if_true]

theorem Hcu.requestInternal_of_free {h : Hcu} (hr : h.regime = .free) : h.requestInternal =
    { h.setCandidate none with requested := .internal, active := .internal, activeWatch := none } := by
  rw [Hcu.requestInternal, if_pos hr]

theorem Hcu.requestInternal_of_not_free {h : Hcu} (hr : h.regime ≠ .free) : h.requestInternal =
    { h.setCandidate none with requested := .internal }.free := by
  rw [Hcu.requestInternal, if_neg hr]

/-- The request of the followed source withdraws the candidate, if there is one (R13). -/
theorem Hcu.request_of_followed {h : Hcu} {src : ClockSource} (hf : h.regime = .following ∧ h.active = src) :
    h.request src = if h.candidate = none then h else { h.setCandidate none with requested := src } := by
  rw [Hcu.request, if_pos hf.symm]
  cases h.candidate <;> rfl

theorem Hcu.request_of_not_followed {h : Hcu} {src : ClockSource} (hf : ¬(h.regime = .following ∧ h.active = src)) :
    h.request src = { h.setCandidate (some src) with requested := src } := by
  rw [Hcu.request, if_neg (mt And.symm hf)]

/-- Settles O17: the refused codes, INTERNAL by the regime, and an external source by what R13 asks of it. -/
theorem clockSourceRequest : Obligations.ClockSourceRequest := by
  intro dest code src s h
  have answers {t : State} {r : Reply} (ht : takeClockSource code s = (t, r)) :
      exec (.clockSource dest code) s = .next (t.replying 0x11 r.status r.content) :=
    exec_answers (.clockSource code) h rfl (by simp) ht
  refine ⟨fun hc => answers (by simp only [takeClockSource, sourceOf_of_lt hc]; rfl), fun hc => ?_⟩
  have hcode : sourceOf code = some src := by
    rw [hc]
    exact sourceOf_sourceCode src
  dsimp only
  split
  next =>
    have freed := takeClockSource_internal (s := s) hcode
    split
    next hr =>
      rw [if_pos hr, Hcu.requestInternal_of_free hr] at freed
      exact (answers freed :)
    next hr =>
      rw [if_neg hr, Hcu.requestInternal_of_not_free hr, restartNotice_eq,
        settle_of_max (e := s.hcu.sampleStart + s.hcu.rate.nominal) (by rfl)] at freed
      exact (answers freed :)
  next hs =>
    have taken := takeClockSource_external (s := s) hcode hs
    by_cases hw : wrongRate s src = true
    · rw [if_pos (wrongRate_iff.mp hw)]
      rw [if_pos hw] at taken
      exact (answers taken :)
    rw [if_neg (wrongRate_iff.not.mp hw)]
    rw [if_neg hw] at taken
    split
    next hf =>
      rw [Hcu.request_of_followed hf] at taken
      split
      next hcand =>
        rw [if_pos hcand] at taken
        exact (answers taken :)
      next hcand =>
        rw [if_neg hcand] at taken
        exact (answers taken :)
    next hf =>
      rw [Hcu.request_of_not_followed hf] at taken
      exact (answers taken :)

end Sys2Proof.Machine
end

section
/-! SUPPORT. The queries of the clock, the lanes and the lines: the records of section 13.4, byte by byte. -/

namespace Sys2Proof.Machine

/-! ## The fields of the records -/

theorem index_of_eq {n : Nat} {b : Byte} {i : Fin n} (h : i.val = b.toNat) : index n b = some i := by
  have hb : b.toNat < n := h ▸ i.isLt
  rw [index, dif_pos hb]
  exact congrArg some (Fin.ext h.symm)

theorem index_of_le {n : Nat} {b : Byte} (h : n ≤ b.toNat) : index n b = none := by
  rw [index, dif_neg (by omega)]

theorem byte_toNat (b : Byte) : byte b.toNat = b := by simp [byte]

theorem candidateCode_eq (c : Option ClockSource) : candidateCode c = (c.map sourceCode).getD 0xFF := by
  cases c <;> rfl

theorem bindingCode_eq (b : Option Binding) :
    bindingCode b = (b.map fun b => BitVec.ofNat 8 (16 * b.port.val + b.slot.val)).getD 0xFF := by
  cases b <;> rfl

theorem whichCode_eq (w : Option Which) : whichCode w = if w = none then 0 else if w = some .primary then 1 else 2 := by
  rcases w with _ | _ | _ <;> rfl

theorem ReturnMode.code_eq (m : ReturnMode) : m.code = if m = .hold then 0 else 1 := by
  cases m <;> rfl

theorem byte_rank (p : Port) : byte p.rank = if p.state ≠ .locked then 0 else if p.degraded then 1 else 2 := by
  unfold Port.rank
  by_cases hl : p.state = .locked
  · cases p.degraded <;> simp [hl, byte]
  · simp [hl, byte]

theorem rankByte_eq (ports : Vector Port 6) (b : Option Binding) : rankByte ports b = (b.map fun b =>
    if ports[b.port].state ≠ .locked then 0 else if ports[b.port].degraded then 1 else 2).getD 0xFF := by
  cases b with
  | none => rfl
  | some b => exact byte_rank _

/-- The house tick counter, by the period basis of the regime (R2). -/
theorem Hcu.tickCounter_eq (h : Hcu) : h.tickCounter = 256#32 * h.count + BitVec.ofNat 32
    (min (65536 * (h.now - h.sampleStart) / (if h.regime = .free then 256 * h.rate.nominal else h.holdover)) 255) := by
  have basis : h.basis = if h.regime = .free then 256 * h.rate.nominal else h.holdover := by
    unfold Hcu.basis
    cases h.regime <;> rfl
  rw [Hcu.tickCounter, Hcu.phase, basis]

/-- A Lane Query's record (R92, section 13.4). -/
theorem laneRecord_eq (ports : Vector Port 6) (l : Lane) : laneRecord ports l = [
    bindingCode l.primary, bindingCode l.alternate, l.mode.code, whichCode l.selection, whichCode l.pendingSwitch,
    flagByte l.mute, rankByte ports l.primary, rankByte ports l.alternate, l.fader.state.code,
    BitVec.ofNat 8 l.fader.level] := rfl

/-! ## The queries -/

theorem takeLaneQuery_of_index {i : Byte} {n : Fin 48} (hn : n.val = i.toNat) (s : State) :
    takeLaneQuery i s = (s, .done (laneRecord s.ports s.lanes[n])) := by
  simp only [takeLaneQuery, index_of_eq hn]

theorem takeLineQuery_of_index {i : Byte} {n : Fin 64} (hn : n.val = i.toNat) (s : State) :
    takeLineQuery i s = (s, .done ([i] ++ beBytes 2 s.lines[n].trim ++ beBytes 2 s.lines[n].delay ++
      [flagByte s.lines[n].mute] ++ s.lines[n].fader.bytes ++ beBytes 2 s.lines[n].clips ++
      beBytes 4 (delayTotal s.lines))) := by
  simp only [takeLineQuery, index_of_eq hn, hn, byte_toNat]

/-- Settles O32: the codes, then each query's record field by field. -/
theorem clockLaneLineQueries : Obligations.ClockLaneLineQueries := by
  refine ⟨⟨rfl, rfl, ⟨rfl, rfl, fun _ => rfl⟩, rfl⟩, fun dest i s h => ?_⟩
  have clockQuery {t r} (ht : takeClockQuery s = (t, r)) := exec_answers (c := .clockQuery dest) .clockQuery h rfl
    (by simp) ht
  have laneQuery {t r} (ht : takeLaneQuery i s = (t, r)) := exec_answers (c := .laneQuery dest i) (.laneQuery i) h rfl
    (by simp) ht
  have lineQuery {t r} (ht : takeLineQuery i s = (t, r)) := exec_answers (c := .lineQuery dest i) (.lineQuery i) h rfl
    (by simp) ht
  refine ⟨⟨Hcu.tickCounter_eq _, ?_⟩, fun hi => ?_, fun hi => ?_, fun n hn => ?_, fun n hn => ?_⟩
  · rw [clockQuery rfl, ← Hcu.tickCounter_eq, ← candidateCode_eq]
    rfl
  · exact (laneQuery (by simp only [takeLaneQuery, index_of_le hi] : _ = (s, .refuse .range)) :)
  · exact (lineQuery (by simp only [takeLineQuery, index_of_le hi] : _ = (s, .refuse .range)) :)
  · rw [laneQuery (takeLaneQuery_of_index hn s), laneRecord_eq, bindingCode_eq, bindingCode_eq, ReturnMode.code_eq,
      whichCode_eq, whichCode_eq, rankByte_eq, rankByte_eq]
    rfl
  · rw [lineQuery (takeLineQuery_of_index hn s)]
    simp only [Reply.done, List.append_assoc]
    rfl

end Sys2Proof.Machine
end

section
/-! SUPPORT. A pin reset and a Restart: every block at its reset values, and every law at a pin reset. -/

namespace Sys2Proof.Machine

/-! ## The members of each bank after a pin reset -/

theorem reset_ports (k : Fin 6) : State.reset.ports[k] = Port.atReset := by simp [State.reset]
theorem reset_lanes (l : Fin 48) : State.reset.lanes[l] = Lane.atReset := by simp [State.reset]
theorem reset_routes (l : Fin 48) : State.reset.routes[l] = [] := by simp [State.reset]
theorem reset_cues (i : Fin 32) : State.reset.cues[i] = .free := by simp [State.reset]
theorem reset_lines (n : Fin 64) : State.reset.lines[n] = Line.atReset := by simp [State.reset]
theorem reset_egress (k : Fin 8) : State.reset.egress[k] = [] := by simp [State.reset]
theorem reset_conditions (i : Fin 12) : State.reset.conditions[i] = Condition.atReset := by simp [State.reset]
theorem reset_cueTaken (l : Fin 48) : State.reset.cueTaken[l] = false := by simp [State.reset]

/-! ## The laws at a pin reset -/

theorem reset_faderLaw : FaderLaw State.reset := by
  have shut : Fader.atReset.Law := by decide
  refine ⟨fun k => ?_, fun l => ?_, fun n => ?_⟩
  · rw [reset_ports]; exact shut
  · rw [reset_lanes]; exact shut
  · rw [reset_lines]; exact shut

theorem reset_portLaw : PortLaw State.reset := by
  intro k
  rw [reset_ports]
  exact ⟨by decide, by decide, ⟨fun _ => ⟨rfl, rfl, rfl, rfl⟩, by decide, rfl⟩,
    ⟨fun _ => ⟨rfl, rfl, rfl⟩, fun _ _ => rfl, by decide, by decide⟩, nofun⟩

theorem reset_laneLaw : LaneLaw State.reset := by
  intro l
  rw [reset_lanes]
  decide

theorem reset_routeLaw : RouteLaw State.reset := by
  have active (l : Fin 48) : cueActiveOn State.reset.cues l = false := by
    simp only [cueActiveOn, reset_cues, CueSlot.activeOn, List.any_eq_false]
    exact fun _ _ => nofun
  refine ⟨fun l => ?_, ?_, fun i j hi => ?_, fun i => ?_⟩
  · rw [active, reset_routes]; decide
  · simp only [poolUsed, reset_routes, List.length_nil]; decide
  · rw [reset_cues] at hi; exact absurd rfl hi
  · rw [reset_cues]; simp [SlotLaw, CueSlot.late, CueSlot.cue?, CueSlot.ramping?]

theorem reset_lineLaw : LineLaw State.reset := by
  refine ⟨fun n => ?_, ?_, fun _ n => ?_⟩
  · rw [reset_lines]; decide
  · simp only [delayTotal, reset_lines, Line.atReset]; decide
  · rw [reset_lines]; rfl

theorem reset_conditionLaw : ConditionLaw State.reset := by
  refine ⟨fun i _ => ?_, ?_⟩
  · rw [reset_conditions]; rfl
  · rw [reset_conditions]; rfl

theorem reset_sampleLaw : SampleLaw State.reset := by
  have zero : InRange 0 := by decide
  refine ⟨fun k t => ?_, fun n => ?_⟩
  · rw [reset_ports]
    simpa [Port.atReset, zeroRings, Frame.zero, Resampler.atReset] using zero
  · rw [reset_lines]; exact nofun

/-- Settles O52, law by law. -/
theorem lawsAtReset : Obligations.LawsAtReset :=
  ⟨reset_faderLaw, reset_portLaw, reset_laneLaw, reset_routeLaw, reset_lineLaw, Hcu.atReset_law, reset_conditionLaw,
    by decide, reset_sampleLaw⟩

/-! ## The pin reset -/

/-- Settles O3, block by block. -/
theorem pinResetValues : Obligations.PinResetValues := by
  intro s
  refine ⟨pinReset s, rfl, ⟨rfl, rfl, rfl, by rw [pinReset_hcu]; decide, rfl, rfl⟩, fun k => reset_ports k,
    fun l => ⟨reset_lanes l, reset_routes l⟩, fun i => reset_cues i, fun n => reset_lines n, fun k => reset_egress k,
    rfl, fun i => reset_conditions i, rfl, fun l => reset_cueTaken l, rfl, rfl, rfl⟩

/-! ## The Restart -/

/-- A route list after a Restart: the leaving entries are gone, and each other entry stands at its target (R102). -/
theorem restartList_eq (list : List RouteEntry) :
    restartList list = (list.filter fun e => !(e.ramp.any (·.leaving))).map fun e =>
      { line := e.line, gain := (e.ramp.map (·.target)).getD e.gain, ramp := none } := by
  have leaving (e : RouteEntry) : e.toTarget.leaving = e.ramp.any (·.leaving) := by
    rcases e with ⟨line, gain, _ | r⟩ <;> rfl
  have plain (e : RouteEntry) : { e.toTarget with ramp := none } =
      ({ line := e.line, gain := (e.ramp.map (·.target)).getD e.gain, ramp := none } : RouteEntry) := by
    rcases e with ⟨line, gain, _ | r⟩ <;> rfl
  simp only [restartList, endRamp, List.filter_map, List.map_map]
  simp only [Function.comp_def, leaving, plain]

/-- A lane after a Restart (R93). -/
theorem Lane.restart_eq (l : Lane) : l.restart = { l with
    selection := if l.primary = none then none else some .primary, pendingSwitch := none, fader := ⟨.shut, 0⟩ } := by
  obtain ⟨primary, alternate, mode, mute, selection, pendingSwitch, fader⟩ := l
  cases primary <;> rfl

/-- The clock's record after a Restart (R15). -/
theorem Hcu.restart_eq (h : Hcu) : h.restart = {
    rate := h.rate, requested := h.requested, regime := .free, active := .internal,
    candidate := if h.requested = .internal then none else some h.requested, goodCount := 0, runSum := 0,
    qualPeriods := [], periods := [], holdover := 256 * h.rate.nominal, count := 0, now := h.now,
    sampleStart := h.now, sampleEnd := some (h.now + h.rate.nominal), holdBase := none, activeWatch := none,
    candidateWatch := if h.requested = .internal then none else some ⟨none, h.now⟩ } := by
  simp only [Hcu.restart, Hcu.setCandidate, external_eq]
  split <;> rfl

/-- What a Restart does to the link is the same whatever the link's queue and transmitter hold (R175). -/
theorem executeRestart_withLink {l : Link} {s : State} (hl : l.address = s.link.address) :
    executeRestart (s.withLink l) = executeRestart s := by
  simp only [executeRestart, State.withLink, Link.restart, hl]

theorem executeRestart_ports (s : State) (k : Fin 6) : (executeRestart s).ports[k] = s.ports[k].restart :=
  getElem_mapAll ..
theorem executeRestart_lanes (s : State) (l : Fin 48) : (executeRestart s).lanes[l] = s.lanes[l].restart :=
  getElem_mapAll ..
theorem executeRestart_routes (s : State) (l : Fin 48) : (executeRestart s).routes[l] = restartList s.routes[l] :=
  getElem_mapAll ..
theorem executeRestart_lines (s : State) (n : Fin 64) : (executeRestart s).lines[n] = s.lines[n].restart :=
  getElem_mapAll ..

theorem restartExecute_of_sending {s : State} {w : List Byte} (hw : s.link.tx = some ⟨w, true⟩) :
    exec .restartExecute s = .next (executeRestart s) := by
  have executed : exec .restartExecute s = .next (match s.link.tx with
    | some t => if t.restart then executeRestart s else s
    | none => s) := rfl
  rw [executed, hw]
  rfl

theorem replyEnd_of_restart {s : State} {w : List Byte} (hw : s.link.tx = some ⟨w, true⟩) :
    replyEnd s = executeRestart s := by
  simp only [replyEnd, hw, if_true]
  exact executeRestart_withLink rfl

/-- A broadcast Restart that is taken executes at once (R152). -/
theorem request_broadcast_restart {s : State} (htx : s.link.tx = none) (hq : s.link.queue = []) :
    request 15 .restart s = executeRestart s := by
  simp only [request, broadcastAddress, if_true, offer, queueCapacity, hq, List.length_nil, Nat.zero_lt_succ,
    List.nil_append, State.takeReady, State.withLink_link, List.length_singleton, takeWaiting, htx, serve, isRestart,
    take]
  exact (executeRestart_withLink rfl).trans (executeRestart_withLink rfl)

/-- Settles O4, block by block. -/
theorem restart : Obligations.Restart := by
  refine ⟨fun s => ⟨executeRestart s, fun w hw => ⟨restartExecute_of_sending hw, ?_⟩, fun htx hq => ?_,
    Hcu.restart_eq _, ?_, fun k => ?_, fun l => ⟨?_, ?_⟩, fun i => ?_, fun l => ?_, fun n => ?_, rfl, rfl, rfl, rfl,
    rfl, rfl⟩, fun dest s h => ?_⟩
  · exact congrArg _ (replyEnd_of_restart hw)
  · exact congrArg _ (request_broadcast_restart htx hq)
  · simp [executeRestart, Hcu.restart_eq, Hcu.tickCounter, Hcu.phase]
  · rw [executeRestart_ports, reset_ports]
    rfl
  · exact (executeRestart_lanes s l).trans (Lane.restart_eq _)
  · rw [executeRestart_routes, restartList_eq]
  · simp [executeRestart]
  · simp [executeRestart]
  · rw [executeRestart_lines]
    rfl
  · exact congrArg _ (request_ready h .restart)

end Sys2Proof.Machine
end

section
/-! SUPPORT. What the part does by itself on an empty queue: which time-driven events are due, and how one of them comes
into the queue. -/

namespace Sys2Proof.Machine

/-! ## What is due -/

theorem Hcu.sampleOver_iff {h : Hcu} : h.sampleOver = true ↔ ∃ e, h.sampleEnd = some e ∧ e ≤ h.now := by
  simp [Hcu.sampleOver, Option.any_eq_true]

/-- A frame timeout has fallen due where the port's last capture lies the frame timeout back or more (R26). -/
theorem timedOut_iff {ticks : Word32} {k : Fin 6} {s : State} : timedOut ticks k s = true ↔
    (s.ports[k].state = .seeding ∨ s.ports[k].state = .locked) ∧ ∃ capture, s.ports[k].lastCapture = some capture ∧
      timeoutTicks s.hcu.rate s.ports[k].rateCode ≤ (ticks - capture).toNat := by
  rw [timedOut, Bool.and_eq_true, PortState.writes_iff]
  cases s.ports[k].lastCapture <;> simp

theorem timeoutDue_iff {k : Fin 6} {s : State} : timeoutDue k s = true ↔ ∃ capture,
    (s.ports[k].state = .seeding ∨ s.ports[k].state = .locked) ∧ s.ports[k].lastCapture = some capture ∧
      (timeoutTicks s.hcu.rate s.ports[k].rateCode ≤ (s.hcu.tickCounter - capture).toNat ∨
        (∃ e, s.hcu.sampleEnd = some e ∧ e ≤ s.hcu.now) ∧
          timeoutTicks s.hcu.rate s.ports[k].rateCode ≤ (s.hcu.nextTicks - capture).toNat) := by
  rw [timeoutDue, Bool.or_eq_true, Bool.and_eq_true, timedOut_iff, timedOut_iff, Hcu.sampleOver_iff]
  constructor
  · rintro (⟨hw, c, hc, ht⟩ | ⟨ho, hw, c, hc, ht⟩)
    · exact ⟨c, hw, hc, .inl ht⟩
    · exact ⟨c, hw, hc, .inr ⟨ho, ht⟩⟩
  · rintro ⟨c, hw, hc, ht | ⟨ho, ht⟩⟩
    · exact .inl ⟨hw, c, hc, ht⟩
    · exact .inr ⟨ho, hw, c, hc, ht⟩

/-- The silence of the followed source, where it is due (R4). -/
def Hcu.followedSilence (h : Hcu) : List Instr :=
  match h.activeWatch with
  | some w => if h.regime = .following ∧ w.silent h.rate h.now then [Instr.watchSilence h.active] else []
  | none => []

/-- The silence of the candidate, where it is due (R4). -/
def Hcu.candidateSilence (h : Hcu) : List Instr :=
  match h.candidate, h.candidateWatch with
  | some c, some w => if w.silent h.rate h.now then [Instr.watchSilence c] else []
  | _, _ => []

theorem dueEvents_eq (s : State) : dueEvents s = (if s.hcu.sampleOver then [Instr.houseSample] else []) ++
    (s.hcu.followedSilence ++ s.hcu.candidateSilence) ++
    ((indices 6).filter fun k => timeoutDue k s).map Instr.frameTimeout := rfl

theorem Hcu.mem_followedSilence {h : Hcu} {c : Instr} : c ∈ h.followedSilence ↔
    ∃ src w, c = .watchSilence src ∧ w.since + 2 * h.rate.nominal ≤ h.now ∧
      h.regime = .following ∧ h.active = src ∧ h.activeWatch = some w := by
  unfold Hcu.followedSilence
  cases h.activeWatch with
  | none => simp
  | some w => simp [Watch.silent_iff]; tauto

theorem Hcu.mem_candidateSilence {h : Hcu} {c : Instr} : c ∈ h.candidateSilence ↔
    ∃ src w, c = .watchSilence src ∧ w.since + 2 * h.rate.nominal ≤ h.now ∧
      h.candidate = some src ∧ h.candidateWatch = some w := by
  unfold Hcu.candidateSilence
  cases h.candidate <;> cases h.candidateWatch <;> simp [Watch.silent_iff, and_comm]

theorem mem_dueEvents {s : State} {c : Instr} : c ∈ dueEvents s ↔
    (c = .houseSample ∧ s.hcu.sampleOver = true) ∨ (c ∈ s.hcu.followedSilence ∨ c ∈ s.hcu.candidateSilence) ∨
      ∃ k, c = .frameTimeout k ∧ timeoutDue k s = true := by
  have sample : c ∈ (if s.hcu.sampleOver then [Instr.houseSample] else []) ↔
      c = .houseSample ∧ s.hcu.sampleOver = true := by
    cases s.hcu.sampleOver <;> simp
  have timeout : c ∈ ((indices 6).filter fun k => timeoutDue k s).map Instr.frameTimeout ↔
      ∃ k, c = .frameTimeout k ∧ timeoutDue k s = true := by
    simp only [List.mem_map, List.mem_filter, mem_indices, true_and, eq_comm, and_comm]
  rw [dueEvents_eq, List.mem_append, List.mem_append, List.mem_append, sample, timeout, or_assoc]

/-! ## What comes next -/

/-- Among several due events one comes into the queue, and a free value is drawn for it. -/
theorem passTime_of_many {s : State} (h : 2 ≤ (dueEvents s).length) : ∃ c ∈ dueEvents s,
    passTime s = { s with pending := s.pending ++ [c], draws := s.draws + 1 } := by
  unfold passTime
  match hd : dueEvents s with
  | [] => simp [hd] at h
  | [c] => simp [hd] at h
  | c :: d :: rest =>
    have hlt : Config.dueChoice s.draws % ((d :: rest).length + 1) < (c :: d :: rest).length :=
      Nat.mod_lt _ (Nat.succ_pos _)
    refine ⟨_, List.getElem_mem hlt, ?_⟩
    rw [← List.getD_eq_getElem _ c hlt]

/-- Settles O2: the due events kind by kind, and the three cases of their number. -/
theorem emptyQueuePassesTime : Obligations.EmptyQueuePassesTime := by
  refine ⟨fun s c => ?_, fun s hp => ?_⟩
  · rw [mem_dueEvents, Hcu.sampleOver_iff, Hcu.mem_followedSilence, Hcu.mem_candidateSilence]
    simp only [timeoutDue_iff, and_or_left, exists_or, exists_and_left]
    rfl
  · have passes : step s = .next (passTime s) := by rw [step, hp]
    rw [passes]
    refine ⟨fun hd => by rw [passTime, hd]; rfl, fun c hd => by rw [passTime, hd, hp]; rfl, fun hd => ?_⟩
    obtain ⟨c, hc, ht⟩ := passTime_of_many hd
    exact ⟨c, hc, by rw [ht, hp]; rfl⟩

end Sys2Proof.Machine
end

section
/-! SUPPORT. What an event at one ingress port touches: that port, the lanes bound to it and the conditions; and what
a port's leaving makes of its record. -/

namespace Sys2Proof.Machine

/-! ## A fader and its target (R70 to R73) -/

theorem Fader.arrivesShut_iff {f g : Fader} : f.arrivesShut g = true ↔ f.state ≠ .shut ∧ g.state = .shut := by
  simp [Fader.arrivesShut]

/-- A fader that is given the target SHUT closes or is SHUT at once (R71). -/
theorem Fader.giveShut_state (f : Fader) : f.giveShut.state = .closing ∨ f.giveShut.state = .shut := by
  obtain ⟨state, level⟩ := f
  cases state <;> simp only [Fader.giveShut]
  case opening => split <;> simp
  all_goals simp

/-- A fader that is given the target OPEN has the direction OPEN (R72). -/
theorem Fader.giveOpen_towardOpen (f : Fader) : f.giveOpen.TowardOpen := by
  obtain ⟨state, level⟩ := f
  cases state <;> simp only [Fader.giveOpen, Fader.TowardOpen]
  case closing => split <;> simp
  all_goals simp

theorem Fader.not_towardOpen_iff {f : Fader} : ¬f.TowardOpen ↔ f.state = .closing ∨ f.state = .shut := by
  cases h : f.state <;> simp [Fader.TowardOpen, h]

theorem Fader.giveShut_not_towardOpen (f : Fader) : ¬f.giveShut.TowardOpen :=
  Fader.not_towardOpen_iff.mpr f.giveShut_state

/-- A step keeps the direction of a fader (R73). -/
theorem Fader.step_towardOpen (f : Fader) : f.step.TowardOpen ↔ f.TowardOpen := by
  obtain ⟨state, level⟩ := f
  cases state <;> simp only [Fader.step, Fader.TowardOpen]
  case closing => split <;> simp
  case opening => split <;> simp

/-! ## A port leaves (R25, R29) -/

/-- What `Port.enter` makes of a port's record, field by field (R25, R29, R49, R64, R65). -/
theorem Port.enter_eq (p : Port) (st : PortState) : p.enter st =
    let target := if p.state = .locked then p.fader.giveShut else p.fader
    { p with
      state := st, goodRun := 0, written := 0, rings := zeroRings, lastFrame := Frame.zero,
      tracker := { p.tracker with window := .idle }, fader := target,
      resampler := { p.resampler with
        int := 0, frac := 0, slipPending := false,
        held :=
          if p.state = .locked ∧ p.fader.state ≠ .shut ∧ target.state = .shut then Frame.zero
          else p.resampler.held } } := by
  simp only [Port.enter, Port.closeFader, Fader.arrivesShut_iff]
  by_cases locked : p.state = .locked
  · simp only [locked, if_true, true_and]
    split <;> rfl
  · simp only [locked, if_false, false_and]

/-- Settles O18, field by field as `Port.enter_eq` has them. -/
theorem portLeaves : Obligations.PortLeaves := fun p st => p.enter_eq st

/-! ## What an event at one port touches -/

/-- A lane of whose bindings none names port `k` is not bound to it. -/
theorem Lane.boundTo_eq_false {l : Lane} {k : Fin 6}
    (h : ∀ b, l.primary = some b ∨ l.alternate = some b → b.port ≠ k) : l.boundTo k = false := by
  simp only [Lane.boundTo, Bool.or_eq_false_iff, Option.any_eq_false, decide_eq_false_iff_not]
  exact ⟨fun b hb => h b (.inl hb), fun b hb => h b (.inr hb)⟩

/-! The library's `Vector.getElem_set_self` and `Vector.getElem_set_ne`, for the `Fin` index of a bank. -/

theorem getElem_set_self {α : Type} {n : Nat} (v : Vector α n) (k : Fin n) (a : α) : (v.set k a)[k] = a :=
  Vector.getElem_set_self _

theorem getElem_set_of_ne {α : Type} {n : Nat} (v : Vector α n) {k j : Fin n} (hj : j ≠ k) (a : α) :
    (v.set k a)[j] = v[j] :=
  Vector.getElem_set_ne _ _ (Fin.val_ne_of_ne hj.symm)

theorem State.withPort_self (k : Fin 6) (p : Port) (s : State) : (s.withPort k p).ports[k] = p := by
  rw [State.withPort_ports, getElem_set_self]

/-- A lane that does not evaluate stays as it is. -/
theorem evaluateLanes_of_not {which : Fin 48 → Bool} {n : Fin 48} (hn : which n = false) (s : State) :
    (evaluateLanes which s).lanes[n] = s.lanes[n] := by
  simp [evaluateLanes, hn]

/-- From `s` to `t` only port `k`, the lanes bound to it and the conditions have changed. -/
structure TouchesPort (k : Fin 6) (s t : State) : Prop where
  rest : t = { s with ports := t.ports, lanes := t.lanes, conditions := t.conditions }
  ports : ∀ j : Fin 6, j ≠ k → t.ports[j] = s.ports[j]
  lanes : ∀ n : Fin 48, s.lanes[n].boundTo k = false → t.lanes[n] = s.lanes[n]

namespace TouchesPort
variable {k : Fin 6} {s t u : State}

theorem refl (k : Fin 6) (s : State) : TouchesPort k s s := ⟨rfl, fun _ _ => rfl, fun _ _ => rfl⟩

theorem trans (h : TouchesPort k s t) (h' : TouchesPort k t u) : TouchesPort k s u where
  rest := by rw [h'.rest, h.rest]
  ports j hj := (h'.ports j hj).trans (h.ports j hj)
  lanes n hn := by
    have same := h.lanes n hn
    exact (h'.lanes n (by rwa [same])).trans same

theorem hcu (h : TouchesPort k s t) : t.hcu = s.hcu := by rw [h.rest]

theorem raise (h : TouchesPort k s t) (c : Cond) (items : BitVec 64) : TouchesPort k s (t.raise c items) :=
  h.trans ⟨rfl, fun _ _ => rfl, fun _ _ => rfl⟩

theorem raiseIf (h : TouchesPort k s t) (on : Bool) (c : Cond) (items : BitVec 64) :
    TouchesPort k s (t.raiseIf on c items) := by
  cases on with
  | false => exact h
  | true => exact h.raise c items

/-- A change of one port's record touches that port and the lanes that its rank concerns (R30, R83). -/
theorem withPort (h : TouchesPort k s t) (p : Port) : TouchesPort k s (t.withPort k p) := by
  refine h.trans ⟨?_, fun j hj => ?_, fun n hn => ?_⟩
  · simp only [State.withPort, State.withPorts, evaluateLanes]
    split
    · simp only [State.raiseSet, State.raiseIf]
      split <;> rfl
    · rfl
  · rw [State.withPort_ports, getElem_set_of_ne _ hj]
  · simp only [State.withPort, State.withPorts]
    split
    · refine evaluateLanes_of_not (List.any_eq_false.mpr fun j _ => ?_) _
      by_cases hj : j = k
      · rw [hj, hn, Bool.and_false]
        exact Bool.false_ne_true
      · rw [getElem_set_of_ne _ hj, bne_self_eq_false, Bool.false_and]
        exact Bool.false_ne_true
    · rfl

end TouchesPort

theorem seedingEntry_touches (k : Fin 6) (s : State) : TouchesPort k s (seedingEntry k s) := by
  simp only [seedingEntry]
  split
  · exact (TouchesPort.refl k s).withPort _
  · exact TouchesPort.refl k s

theorem windowComplete_touches (k : Fin 6) (s : State) : TouchesPort k s (windowComplete k s) := by
  have changed := (TouchesPort.refl k s).withPort
  simp only [windowComplete]
  split
  · split
    · split
      · exact (changed _).raise _ _
      split <;> exact changed _
    · exact TouchesPort.refl k s
  · exact TouchesPort.refl k s

theorem loss_touches (k : Fin 6) (s : State) : TouchesPort k s (loss k s) :=
  ((TouchesPort.refl k s).withPort _).raise _ _

theorem arrivalAfterScore_touches (k : Fin 6) (capture : Word32) (c : FrameClass) (samples : Frame) (s : State) :
    TouchesPort k s (arrivalAfterScore k capture c samples s) := by
  have changed := (TouchesPort.refl k s).withPort
  simp only [arrivalAfterScore]
  split
  · exact (changed _).trans (seedingEntry_touches k _)
  · exact (changed _).trans (windowComplete_touches k _)

theorem portArrival_touches (k : Fin 6) (capture : Word32) (body : List Byte) (s : State) :
    TouchesPort k s (portArrival k capture body s) := by
  have scored (p : Port) (on : Bool) := ((TouchesPort.refl k s).withPort p).raiseIf on .portWarn (portBit k)
  simp only [portArrival]
  split
  · split
    · exact ((scored _ _).withPort _).raise _ _
    · exact (scored _ _).trans (arrivalAfterScore_touches k _ _ _ _)
  · exact TouchesPort.refl k s

theorem withReceiver_touches (k : Fin 6) (r : Receiver) (s : State) : TouchesPort k s (s.withReceiver k r) :=
  ⟨rfl, fun _ hj => getElem_set_of_ne _ hj _, fun _ _ => rfl⟩

/-- At a port that is no watched clock source, an arrival is handled by the port alone, or discarded (R18). -/
theorem arrive_unwatched {k : Fin 6} {s : State} (hw : s.hcu.watches (.port k) = false) (body : List Byte) :
    arrive k body s = portArrival k s.hcu.tickCounter body s := by
  simp only [arrive, portArrival, hw]
  cases s.ports[k].state.handles <;> rfl

theorem ingressByte_touches {k : Fin 6} {s : State} (hw : s.hcu.watches (.port k) = false) (b : Byte) :
    TouchesPort k s (ingressByte k b s) := by
  have heard := withReceiver_touches k
  unfold ingressByte
  split
  · split <;> exact heard _ s
  · split
    · rw [arrive_unwatched (by exact hw)]
      exact (heard _ s).trans (portArrival_touches k _ _ _)
    · exact heard _ s

/-- The bytes received at a port that is no watched clock source touch that port (R17 to R31, R83). -/
theorem ingressBytes_touches {k : Fin 6} {s : State} (hw : s.hcu.watches (.port k) = false) (bytes : List Byte) :
    TouchesPort k s (bytes.foldl (fun t b => ingressByte k b t) s) :=
  foldl_kept (P := TouchesPort k s) (fun _ b ht => ht.trans (ingressByte_touches (by rwa [ht.hcu]) b)) bytes
    (TouchesPort.refl k s)

/-- Settles O51: the bytes touch the port, and a lane with no binding to it is not bound to it. -/
theorem arrivalTouches : Obligations.ArrivalTouches := by
  intro k bytes s hw
  have touched := ingressBytes_touches hw bytes
  exact ⟨_, rfl, touched.rest, touched.ports, fun n hn => touched.lanes n (Lane.boundTo_eq_false hn)⟩

end Sys2Proof.Machine
end

section
/-! SUPPORT. The laws of one port's record, and what keeps them: leaving for OFF, HUNT or BARRED, the port requests, a
change of house rate, a Restart, a restart notice and a loss. -/

namespace Sys2Proof.Machine

/-! ## The laws of one port -/

/-- The laws of one port, in a part of house rate `house`. -/
structure Port.Law (house : HouseRate) (p : Port) : Prop where
  ranges : p.Ranges
  score : p.ScoreLaw
  window : p.WindowLaw
  resampler : p.ResamplerLaw
  step : p.StepLaw house

theorem portLaw_iff {s : State} : PortLaw s ↔ ∀ k : Fin 6, s.ports[k].Law s.hcu.rate := by
  refine forall_congr' fun k => ⟨?_, ?_⟩
  · rintro ⟨ranges, score, window, resampler, step⟩
    exact ⟨ranges, score, window, resampler, step⟩
  · rintro ⟨ranges, score, window, resampler, step⟩
    exact ⟨ranges, score, window, resampler, step⟩

/-- The law of a port's score and degraded flag (R19, R20). -/
def Port.DegradedLaw (p : Port) : Prop :=
  p.score ≤ 256 ∧ (128 ≤ p.score → p.degraded = true) ∧ (p.score < 96 → p.degraded = false)

theorem Port.scoreLaw_iff {p : Port} : p.ScoreLaw ↔ p.DegradedLaw ∧ (p.enable = false ↔ p.state = .off) ∧
    (p.score = 256 ↔ p.state = .barred) ∧ p.goodRun ≤ 15 ∧ (p.state ≠ .hunt → p.goodRun = 0) := by
  unfold Port.ScoreLaw Port.DegradedLaw
  tauto

/-- The tracker's window has counted at most `bound` arrivals (R38, R39). -/
def Tracker.CountsWithin (bound : Nat) (t : Tracker) : Prop :=
  ∀ start count, t.window = .timing start count → count ≤ bound

theorem Port.windowLaw_iff {p : Port} : p.WindowLaw ↔
    (p.state.writes = false →
      p.written = 0 ∧ p.rings = zeroRings ∧ p.lastFrame = Frame.zero ∧ p.tracker.window = .idle) ∧
    (p.state.writes = true → p.tracker.window ≠ .idle ∧ p.lastCapture.isSome = true) ∧
    p.tracker.CountsWithin (2 ^ p.windowExp - 1) := by
  have full : 0 < 2 ^ p.windowExp := by positivity
  have timed : (match p.tracker.window with
      | .timing _ count => decide (count < 2 ^ p.windowExp)
      | _ => true) = true ↔ p.tracker.CountsWithin (2 ^ p.windowExp - 1) := by
    unfold Tracker.CountsWithin
    cases p.tracker.window with
    | idle => simp
    | waiting => simp
    | timing start count => simpa using (Nat.le_sub_one_iff_lt full).symm
  exact and_congr_right' (and_congr_right' timed)

/-- A LOCKED port's fader is open or opening, or a slip is pending and it is closing: it is never SHUT (R57, R76). -/
theorem Port.ResamplerLaw.fader_of_locked {p : Port} (h : p.ResamplerLaw) (locked : p.state = .locked) :
    p.fader.state ≠ .shut := by
  obtain ⟨-, -, toward, pending⟩ := h
  cases hs : p.resampler.slipPending with
  | true => simp [pending hs]
  | false =>
    rcases toward.mpr ⟨locked, hs⟩ with h | h <;> simp [h]

/-- Outside LOCKED only the fader's direction and the held outputs are bound by the resampler's laws. -/
theorem Port.resamplerLaw_of_not_locked {p : Port} (hn : p.state ≠ .locked)
    (zero : p.resampler.int = 0 ∧ p.resampler.frac = 0 ∧ p.resampler.slipPending = false)
    (held : p.fader.state = .shut → p.resampler.held = Frame.zero) (away : ¬p.fader.TowardOpen) : p.ResamplerLaw :=
  ⟨fun _ => zero, fun _ => held, iff_of_false away fun h => hn h.1, fun h => by simp [zero] at h⟩

/-! ## A port leaves for OFF, HUNT or BARRED -/

/-- A port that leaves is lawful where its score, its enable bit and its ranges are (R25, R29). -/
theorem Port.enter_law {p : Port} {st : PortState} (house : HouseRate) (hst : st.writes = false)
    (ranges : p.Ranges) (resampler : p.ResamplerLaw) (degraded : p.DegradedLaw)
    (enable : p.enable = false ↔ st = .off) (score : p.score = 256 ↔ st = .barred) : (p.enter st).Law house := by
  have hlocked : st ≠ .locked := by rintro rfl; cases hst
  obtain ⟨latency, window, counters, steps, -, slips⟩ := ranges
  rw [Port.enter_eq]
  refine ⟨⟨latency, window, counters, steps, by norm_num, slips⟩, Port.scoreLaw_iff.mpr ⟨degraded, enable, score,
    Nat.zero_le _, fun _ => rfl⟩, Port.windowLaw_iff.mpr ⟨fun _ => ⟨rfl, rfl, rfl, rfl⟩, ?_, ?_⟩,
    Port.resamplerLaw_of_not_locked hlocked ⟨rfl, rfl, rfl⟩ ?_ ?_, fun h => absurd h hlocked⟩
  · simp [hst]
  · exact nofun
  · by_cases locked : p.state = .locked
    · simp +contextual [locked, resampler.fader_of_locked locked]
    · obtain ⟨-, held, -⟩ := resampler
      simpa [locked] using held locked
  · by_cases locked : p.state = .locked
    · simpa only [locked, if_true] using p.fader.giveShut_not_towardOpen
    · obtain ⟨-, -, toward, -⟩ := resampler
      simpa only [locked, if_false] using fun h => locked (toward.mp h).1

/-! ## The port requests -/

theorem countUp_le (cap c n : Nat) : countUp cap c n ≤ cap := Nat.min_le_right _ _

/-- The port after an accepted Port Setup, case by case (R32). -/
theorem Port.setup_eq (enable : Bool) (rate : IngressRate) (latency window : Nat) (p : Port) :
    p.setup enable rate latency window =
      let q := p.configure enable rate latency window
      if enable = false then { q.enter .off with score := 0, degraded := false }
      else if p.state = .barred then q
      else if p.state = .off then q.enter .hunt
      else if p.rateCode = rate ∧ p.latency = latency ∧ p.windowExp = window then q
      else q.enter .hunt := by
  cases enable with
  | false => rfl
  | true =>
    unfold Port.setup
    cases p.state <;> rfl

theorem Port.configure_self {p : Port} (he : p.enable = true) :
    p.configure true p.rateCode p.latency p.windowExp = p := by
  rw [Port.configure, ← he]

/-- An accepted Port Setup keeps the port's laws (R32). -/
theorem Port.Law.setup {p : Port} {house : HouseRate} (h : p.Law house) (enable : Bool) (rate : IngressRate)
    {latency window : Nat} (hlatency : 8 ≤ latency ∧ latency ≤ 48) (hwindow : 6 ≤ window ∧ window ≤ 12) :
    (p.setup enable rate latency window).Law house := by
  have whole := h
  obtain ⟨⟨-, -, counters⟩, score, windows, resampler, -⟩ := h
  obtain ⟨degraded, off, barred, run⟩ := Port.scoreLaw_iff.mp score
  have ranges : (p.configure enable rate latency window).Ranges := ⟨hlatency, hwindow, counters⟩
  have hunts (he : enable = true) (hb : p.state ≠ .barred) :
      ((p.configure enable rate latency window).enter .hunt).Law house :=
    Port.enter_law house rfl ranges resampler degraded (by simp [Port.configure, he])
      (iff_of_false (mt barred.mp hb) (by simp))
  rw [Port.setup_eq]
  dsimp only
  split
  next he =>
    have moved : { (p.configure enable rate latency window).enter .off with score := 0, degraded := false } =
        Port.enter .off { p.configure enable rate latency window with score := 0, degraded := false } := by
      rw [Port.enter_eq, Port.enter_eq]
    rw [moved]
    exact Port.enter_law house rfl ranges resampler ⟨Nat.zero_le _, by simp, fun _ => rfl⟩
      (iff_of_true he rfl) (by simp)
  next he =>
  rw [Bool.not_eq_false] at he
  subst he
  split
  next hb =>
    obtain ⟨outside, -, -⟩ := windows
    have idle := outside (by simp [hb, PortState.writes])
    refine ⟨ranges, Port.scoreLaw_iff.mpr ⟨degraded, by simp [Port.configure, hb], barred, run⟩,
      Port.windowLaw_iff.mpr ⟨fun _ => idle, ?_, ?_⟩, resampler, ?_⟩
    · simp [Port.configure, hb, PortState.writes]
    · simp [Tracker.CountsWithin, Port.configure, idle]
    · simp [Port.StepLaw, Port.configure, hb]
  next hb =>
  split
  · exact hunts rfl hb
  next ho =>
  split
  next same =>
    obtain ⟨rfl, rfl, rfl⟩ := same
    rw [Port.configure_self (by simpa using mt off.mp ho)]
    exact whole
  · exact hunts rfl hb

/-- No law of a port speaks of its receiver or of what it accepts. -/
theorem Port.Law.withInput {p : Port} {house : HouseRate} (h : p.Law house) (receiver : Receiver) (tag mask : Byte) :
    Port.Law house { p with receiver := receiver, acceptTag := tag, acceptMask := mask } :=
  ⟨h.ranges, h.score, h.window, h.resampler, h.step⟩

theorem Port.Law.resync {p : Port} {house : HouseRate} (h : p.Law house) (before : PortState) :
    (p.resync before).Law house := by
  unfold Port.resync
  split
  · exact h
  · exact h.withInput _ p.acceptTag p.acceptMask

/-- A BARRED port that is revived is lawful (R35). -/
theorem Port.Law.revive {p : Port} {house : HouseRate} (h : p.Law house) (hb : p.state = .barred) :
    (Port.enter .hunt { p with score := 0, degraded := false }).Law house := by
  obtain ⟨ranges, ⟨off, -⟩, -, resampler, -⟩ := h
  exact Port.enter_law house rfl ranges resampler ⟨Nat.zero_le _, by simp, fun _ => rfl⟩
    (by simp [off, hb]) (by simp)

/-- A change of house rate leaves every port lawful for the new rate: none is LOCKED (R12). -/
theorem Port.Law.rateChanged {p : Port} {house : HouseRate} (h : p.Law house) (house' : HouseRate) :
    p.rateChanged.Law house' := by
  have silent := Port.rateChanged_not_writes h.score
  obtain ⟨ranges, score, window, resampler, -⟩ := h
  obtain ⟨degraded, -, barred, -⟩ := Port.scoreLaw_iff.mp score
  unfold Port.rateChanged at silent ⊢
  split
  next hp =>
    obtain ⟨he, hb⟩ := hp
    exact Port.enter_law house' rfl ranges resampler degraded (by simp [he]) (iff_of_false (mt barred.mp hb) (by simp))
  next hp =>
    rw [if_neg hp] at silent
    exact ⟨ranges, score, window, resampler, fun hl => by simp [hl, PortState.writes] at silent⟩

/-- A Restart leaves every port lawful (R36, R51, R69, R79). -/
theorem Port.Law.restart {p : Port} {house : HouseRate} (h : p.Law house) (house' : HouseRate) :
    p.restart.Law house' := by
  obtain ⟨⟨latency, window, -⟩, -⟩ := h
  have state : p.restart.state ≠ .locked ∧ p.restart.state ≠ .barred ∧ p.restart.state.writes = false ∧
      (p.enable = false ↔ p.restart.state = .off) := by
    cases he : p.enable <;> simp [Port.restart, he, PortState.writes]
  obtain ⟨locked, barred, silent, off⟩ := state
  obtain ⟨-, -, fresh⟩ : Port.atReset.Ranges := by decide
  have low : p.restart.score = 0 := rfl
  refine ⟨⟨latency, window, fresh⟩, Port.scoreLaw_iff.mpr ⟨⟨Nat.zero_le _, by simp [low], fun _ => rfl⟩, off,
    iff_of_false (by simp [low]) barred, Nat.zero_le _, fun _ => rfl⟩,
    Port.windowLaw_iff.mpr ⟨fun _ => ⟨rfl, rfl, rfl, rfl⟩, by simp [silent], nofun⟩,
    Port.resamplerLaw_of_not_locked locked ⟨rfl, rfl, rfl⟩ (fun _ => rfl) ?_, fun hl => absurd hl locked⟩
  show ¬Fader.atReset.TowardOpen
  decide

theorem Port.Law.clearCounters {p : Port} {house : HouseRate} (h : p.Law house) : p.clearCounters.Law house := by
  obtain ⟨⟨latency, window, -, steps, frac, -⟩, score, windows, resampler, step⟩ := h
  have zero (n : Nat) : 0 ≤ n := Nat.zero_le n
  exact ⟨⟨latency, window, ⟨zero _, zero _, zero _, zero _, zero _⟩, steps, frac, zero _, zero _, zero _⟩, score,
    windows, resampler, step⟩

/-- A restart notice keeps a port's laws: its tracker waits (R48). -/
theorem Port.Law.notice {p : Port} {house : HouseRate} (h : p.Law house) : p.notice.Law house := by
  unfold Port.notice
  split
  next hw =>
    obtain ⟨ranges, score, ⟨-, inside, -⟩, resampler, step⟩ := h
    obtain ⟨-, capture⟩ := inside hw
    exact ⟨ranges, score, Port.windowLaw_iff.mpr ⟨by simp [hw], fun _ => ⟨by simp, capture⟩, nofun⟩, resampler, step⟩
  · exact h

theorem Port.Law.not_barred {p : Port} {house : HouseRate} (h : p.Law house) (hb : p.state ≠ .barred) :
    p.score ≠ 256 := by
  obtain ⟨-, ⟨-, -, barred, -⟩, -⟩ := h
  exact mt barred.mp hb

theorem PortState.writes_ne {st : PortState} (h : st.writes = true) : st ≠ .off ∧ st ≠ .barred ∧ st ≠ .hunt := by
  cases st <;> simp_all [PortState.writes]

/-- A loss keeps the laws of a port in SEEDING or LOCKED (R26, R29). -/
theorem Port.Law.lost {p : Port} {house : HouseRate} (h : p.Law house) (hw : p.state.writes = true) :
    (Port.enter .hunt { p with losses := countUp max16 p.losses }).Law house := by
  obtain ⟨hoff, hbarred, -⟩ := PortState.writes_ne hw
  have score := h.not_barred hbarred
  obtain ⟨⟨latency, window, ⟨checks, foreigns, conceals, -, faults⟩, rest⟩, hscore, -, resampler, -⟩ := h
  obtain ⟨degraded, off, -⟩ := Port.scoreLaw_iff.mp hscore
  exact Port.enter_law house rfl
    ⟨latency, window, ⟨checks, foreigns, conceals, countUp_le _ _ _, faults⟩, rest⟩ resampler degraded
    (iff_of_false (mt off.mp hoff) (by simp)) (iff_of_false score (by simp))

end Sys2Proof.Machine
end

section
/-! SUPPORT. A port's stage of a house sample keeps the port's laws: the bands, the fader's step, and the action at
SHUT. -/

namespace Sys2Proof.Machine

/-! ## The house sample -/

/-- The resampler's counters and fraction lie in their ranges (R52). -/
abbrev Resampler.Ranges (r : Resampler) : Prop :=
  r.frac < 16777216 ∧ r.softSlips ≤ max16 ∧ r.hardSlips ≤ max16 ∧ r.overshoots ≤ max32

/-- A port whose resampler and fader have changed is lawful where their own laws hold. -/
theorem Port.Law.withResampler {p : Port} {house : HouseRate} (h : p.Law house) {r : Resampler} {f : Fader}
    (ranges : r.Ranges) (law : Port.ResamplerLaw { p with resampler := r, fader := f }) :
    Port.Law house { p with resampler := r, fader := f } := by
  obtain ⟨⟨latency, window, counters, steps, -⟩, score, windows, -, step⟩ := h
  exact ⟨⟨latency, window, counters, steps, ranges⟩, score, windows, law, step⟩

theorem Port.Law.resampler_ranges {p : Port} {house : HouseRate} (h : p.Law house) : p.resampler.Ranges := by
  obtain ⟨⟨-, -, -, -, ranges⟩, -⟩ := h
  exact ranges

/-- In LOCKED the resampler's laws are that the fader is open or opening, or with a slip pending closing (R57, R76). -/
theorem Port.resamplerLaw_of_locked {p : Port} (locked : p.state = .locked)
    (opens : p.resampler.slipPending = false → p.fader.TowardOpen)
    (pending : p.resampler.slipPending = true → p.fader.state = .closing) : p.ResamplerLaw := by
  refine ⟨fun h => absurd locked h, fun h => absurd locked h, ⟨fun h => ⟨locked, ?_⟩, fun h => opens h.2⟩, pending⟩
  cases hs : p.resampler.slipPending with
  | false => rfl
  | true => simp [Fader.TowardOpen, pending hs] at h

theorem Port.ResamplerLaw.towardOpen {p : Port} (h : p.ResamplerLaw) (locked : p.state = .locked)
    (hs : p.resampler.slipPending = false) : p.fader.TowardOpen := by
  obtain ⟨-, -, toward, -⟩ := h
  exact toward.mpr ⟨locked, hs⟩

theorem Port.ResamplerLaw.closing {p : Port} (h : p.ResamplerLaw) (hs : p.resampler.slipPending = true) :
    p.fader.state = .closing := by
  obtain ⟨-, -, -, pending⟩ := h
  exact pending hs

/-- A completed soft slip leaves the fader on its way to OPEN (R58). -/
theorem Port.Law.softSlip {p : Port} {house : HouseRate} (h : p.Law house) (locked : p.state = .locked)
    (f : Fader) (r : Resampler) (hr : r.Ranges) :
    (Port.softSlip { p with resampler := r, fader := f }).Law house := by
  obtain ⟨-, -, hard, overshoots⟩ := hr
  exact h.withResampler ⟨by norm_num [Port.recentre], countUp_le _ _ _, hard, overshoots⟩
    (Port.resamplerLaw_of_locked locked (fun _ => f.giveOpen_towardOpen) (by simp))

/-- A hard slip leaves the fader on its way to OPEN, and no slip pending (R56). -/
theorem Port.Law.hardSlip {p : Port} {house : HouseRate} (h : p.Law house) (locked : p.state = .locked) :
    p.hardSlip.Law house ∧ p.hardSlip.state = .locked := by
  obtain ⟨-, soft, -, overshoots⟩ := h.resampler_ranges
  have ranges : Resampler.Ranges { p.recentre.resampler with
      hardSlips := countUp max16 p.recentre.resampler.hardSlips, slipPending := false } :=
    ⟨by norm_num [Port.recentre], soft, countUp_le _ _ _, overshoots⟩
  simp only [Port.hardSlip]
  split
  next =>
    exact ⟨h.withResampler ranges
      (Port.resamplerLaw_of_locked locked (fun _ => p.fader.giveOpen_towardOpen) (by simp)), locked⟩
  next hs =>
    exact ⟨h.withResampler ranges (Port.resamplerLaw_of_locked locked
      (fun _ => h.resampler.towardOpen locked (by simpa using hs)) (by simp)), locked⟩

/-- The bands keep the laws of a LOCKED port (R55 to R58). -/
theorem Port.Law.bands {p : Port} {house : HouseRate} (h : p.Law house) (locked : p.state = .locked) :
    p.bands.1.Law house ∧ p.bands.1.state = .locked := by
  simp only [Port.bands]
  split
  · exact h.hardSlip locked
  split
  · have onShut : (p.setSlipPending).onShut.1 = p.setSlipPending.softSlip := by
      simp [Port.onShut, Port.setSlipPending, locked]
    split
    next => rw [onShut]; exact ⟨h.softSlip locked _ _ h.resampler_ranges, locked⟩
    next stays =>
      rw [Fader.arrivesShut_iff] at stays
      have closing : p.fader.giveShut.state = .closing :=
        p.fader.giveShut_state.resolve_right fun shut => stays ⟨h.resampler.fader_of_locked locked, shut⟩
      exact ⟨h.withResampler h.resampler_ranges
        (Port.resamplerLaw_of_locked locked (by simp) fun _ => closing), locked⟩
  · exact ⟨h, locked⟩

/-- The resampler's work at a house sample keeps the port's laws (R54 to R62). -/
theorem Port.Law.resample {p : Port} {house : HouseRate} (h : p.Law house) : p.resample.1.Law house := by
  simp only [Port.resample]
  split
  next locked =>
    obtain ⟨-, counts⟩ := h.resampler_ranges
    have advanced : Port.Law house { p with resampler := p.resampler.advance p.tracker.sApplied } :=
      h.withResampler ⟨Nat.mod_lt _ (by norm_num), counts⟩ (Port.resamplerLaw_of_locked locked
        (fun hs => h.resampler.towardOpen locked hs) h.resampler.closing)
    obtain ⟨banded, locked'⟩ := advanced.bands locked
    obtain ⟨frac, soft, hard, -⟩ := banded.resampler_ranges
    exact banded.withResampler ⟨frac, soft, hard, countUp_le _ _ _⟩ (Port.resamplerLaw_of_locked locked'
      (fun hs => banded.resampler.towardOpen locked' hs) banded.resampler.closing)
  next => exact h

/-- A fader's step (R73): closing, it goes on closing or is SHUT. -/
theorem Fader.step_of_closing {f : Fader} (h : f.state = .closing) :
    f.step.state = .closing ∨ f.step.state = .shut := by
  simp only [Fader.step, h]
  split <;> simp

/-- A fader that steps without arriving at SHUT is SHUT only where it was. -/
theorem Fader.shut_of_not_arrives {f g : Fader} (stays : ¬f.arrivesShut g = true) (shut : g.state = .shut) :
    f.state = .shut := by
  rw [Fader.arrivesShut_iff] at stays
  tauto

/-- The fader's step, and the port's action where it arrives at SHUT, keep the port's laws (R58, R65, R73, R77). -/
theorem Port.Law.stepFader {p : Port} {house : HouseRate} (h : p.Law house) :
    Port.Law house (if p.fader.arrivesShut p.fader.step then (Port.onShut { p with fader := p.fader.step }).1
      else { p with fader := p.fader.step }) := by
  obtain ⟨outside, held, toward, pending⟩ := h.resampler
  by_cases locked : p.state = .locked
  · have steps (hs : p.resampler.slipPending = false) : p.fader.step.TowardOpen :=
      p.fader.step_towardOpen.mpr (h.resampler.towardOpen locked hs)
    split
    next arrives =>
      obtain ⟨-, shut⟩ := Fader.arrivesShut_iff.mp arrives
      have hs : p.resampler.slipPending = true := by
        by_contra hs
        simpa [Fader.TowardOpen, shut] using steps (by simpa using hs)
      have slips : (Port.onShut { p with fader := p.fader.step }).1 =
          Port.softSlip { p with fader := p.fader.step } := by
        simp only [Port.onShut, locked, hs, if_true]
      rw [slips]
      exact h.softSlip locked _ _ h.resampler_ranges
    next stays =>
      refine h.withResampler h.resampler_ranges (Port.resamplerLaw_of_locked locked steps fun hs => ?_)
      exact (Fader.step_of_closing (pending hs)).resolve_right
        fun shut => h.resampler.fader_of_locked locked (Fader.shut_of_not_arrives stays shut)
  · have away : ¬p.fader.step.TowardOpen := fun ho => locked (toward.mp (p.fader.step_towardOpen.mp ho)).1
    split
    next =>
      have silenced : (Port.onShut { p with fader := p.fader.step }).1 =
          { p with fader := p.fader.step, resampler := { p.resampler with held := Frame.zero } } := by
        simp only [Port.onShut, locked, if_false]
      rw [silenced]
      exact h.withResampler h.resampler_ranges
        (Port.resamplerLaw_of_not_locked locked (outside locked) (fun _ => rfl) away)
    next stays =>
      exact h.withResampler h.resampler_ranges (Port.resamplerLaw_of_not_locked locked (outside locked)
        (fun shut => held locked (Fader.shut_of_not_arrives stays shut)) away)

/-- A port's stage of a house sample keeps its laws. -/
theorem Port.Law.houseSample {p : Port} {house : HouseRate} (h : p.Law house) : p.houseSample.port.Law house := by
  have stepped := h.resample.stepFader
  simp only [Port.houseSample]
  split
  next arrives => rwa [if_pos arrives] at stepped
  next stays => rwa [if_neg stays] at stepped

/-- The port's action on its fader's arrival at SHUT keeps the port's laws (R58, R65). -/
theorem Port.Law.onShut {p : Port} {house : HouseRate} (h : p.Law house) (shut : p.fader.state = .shut) :
    p.onShut.1.Law house := by
  have locked : p.state ≠ .locked := fun locked => h.resampler.fader_of_locked locked shut
  have silenced : p.onShut.1 = { p with resampler := { p.resampler with held := Frame.zero } } := by
    simp only [Port.onShut, locked, if_false]
  obtain ⟨outside, -, toward, -⟩ := h.resampler
  rw [silenced]
  exact h.withResampler h.resampler_ranges (Port.resamplerLaw_of_not_locked locked (outside locked) (fun _ => rfl)
    fun ho => locked (toward.mp ho).1)

end Sys2Proof.Machine
end

section
/-! SUPPORT. The tracker's arithmetic, and the completion of a full window. -/

namespace Sys2Proof.Machine

/-! ## The tracker's arithmetic (R37, R40 to R45) -/

theorem nominalStep_le (house : HouseRate) (rate : IngressRate) : nominalStep house rate ≤ 33554432 := by
  cases house <;> cases rate <;> decide

theorem measuredStep_le (w elapsed : Nat) : measuredStep w elapsed ≤ max32 := by
  unfold measuredStep
  split
  · exact le_refl _
  · exact Nat.min_le_right _ _

theorem near_of_not_rateFault {s0 sMeas : Nat} (h : ¬rateFault s0 sMeas = true) : Near s0 (s0 / 256) sMeas := by
  simp only [rateFault, decide_eq_true_eq, Near] at *
  omega

/-- The clamp keeps the applied step within S0 ± floor(S0/512) (R42, R45). -/
theorem clampStep_near (s0 : Nat) (x : Int) : Near s0 (s0 / 512) (clampStep s0 x) := by
  simp only [clampStep, clamp, Near]
  split
  · omega
  split <;> omega

/-- The filter moves between the filtered and the measured step, so it stays where both are (R43). -/
theorem filterStep_near {c h sFilt sMeas : Nat} (hf : Near c h sFilt) (hm : Near c h sMeas) :
    Near c h (filterStep sFilt sMeas) := by
  have between : min 0 ((sMeas : Int) - sFilt) ≤ ((sMeas : Int) - sFilt).tdiv 16 ∧
      ((sMeas : Int) - sFilt).tdiv 16 ≤ max 0 ((sMeas : Int) - sFilt) := by
    rcases le_total 0 ((sMeas : Int) - sFilt) with up | down
    · rw [Int.tdiv_eq_ediv_of_nonneg up]
      omega
    · rw [← neg_neg ((sMeas : Int) - sFilt), Int.neg_tdiv, Int.tdiv_eq_ediv_of_nonneg (by omega)]
      omega
  simp only [filterStep, Near] at *
  omega

theorem Near.le_max32 {house : HouseRate} {rate : IngressRate} {d x : Nat}
    (h : Near (nominalStep house rate) (nominalStep house rate / d) x) : x ≤ max32 := by
  have := nominalStep_le house rate
  have := Nat.div_le_self (nominalStep house rate) d
  simp only [Near, max32] at *
  omega

/-! ## A window completes (R40 to R47) -/

/-- The completion of a full window, by the fault test and the port's state (R27, R28, R40 to R47). -/
theorem windowComplete_of_full {k : Fin 6} {s : State} {start capture : Word32}
    (hw : s.ports[k].tracker.window = .timing start (2 ^ s.ports[k].windowExp))
    (hs : s.ports[k].state.writes = true) (hc : s.ports[k].lastCapture = some capture) {sMeas s0 : Nat}
    (hm : measuredStep s.ports[k].windowExp (capture - start).toNat = sMeas)
    (h0 : nominalStep s.hcu.rate s.ports[k].rateCode = s0) : windowComplete k s =
      if rateFault s0 sMeas then (s.withPort k (s.ports[k].rateFaulted sMeas)).raise .rate (portBit k)
      else if s.ports[k].state = .seeding then s.withPort k (s.ports[k].seed s0 sMeas capture)
      else s.withPort k (s.ports[k].track s0 sMeas capture) := by
  simp only [windowComplete, hw, hs, hc, and_self, if_true, Option.getD_some, hm, h0]

/-- Only a full window of a port in SEEDING or LOCKED completes (R38, R39). -/
theorem windowComplete_of_not_full {k : Fin 6} {s : State}
    (hn : ∀ start, s.ports[k].tracker.window = .timing start (2 ^ s.ports[k].windowExp) →
      s.ports[k].state.writes = false) : windowComplete k s = s := by
  simp only [windowComplete]
  split
  next start count hw =>
    refine if_neg fun full => ?_
    obtain ⟨writes, rfl⟩ := full
    exact Bool.false_ne_true ((hn start hw).symm.trans writes)
  next => rfl

/-- A port in SEEDING or LOCKED to whose tracker an arrival has just been handed: lawful, but for a window that may be
full (R39). -/
structure Port.HandedLaw (house : HouseRate) (p : Port) : Prop where
  ranges : p.Ranges
  score : p.ScoreLaw
  writes : p.state.writes = true
  window : p.tracker.window ≠ .idle
  capture : p.lastCapture.isSome = true
  counts : p.tracker.CountsWithin (2 ^ p.windowExp)
  resampler : p.ResamplerLaw
  step : p.StepLaw house

namespace Port.HandedLaw
variable {p : Port} {house : HouseRate} (h : p.HandedLaw house)
include h

/-- A window that has not filled leaves the port lawful. -/
theorem law_of_not_full (hn : ∀ start, p.tracker.window ≠ .timing start (2 ^ p.windowExp)) : p.Law house := by
  refine ⟨h.ranges, h.score, Port.windowLaw_iff.mpr ⟨by simp [h.writes], fun _ => ⟨h.window, h.capture⟩, ?_⟩,
    h.resampler, h.step⟩
  intro start count hw
  have bound := h.counts start count hw
  have : count ≠ 2 ^ p.windowExp := by
    rintro rfl
    exact hn start hw
  omega

/-- A rate fault returns the port to HUNT (R27, R41). -/
theorem rateFaulted {sMeas : Nat} (hm : sMeas ≤ max32) : (p.rateFaulted sMeas).Law house := by
  obtain ⟨hoff, hbarred, -⟩ := PortState.writes_ne h.writes
  obtain ⟨latency, window, ⟨checks, foreigns, conceals, losses, -⟩, ⟨-, steps⟩, reads⟩ := h.ranges
  obtain ⟨degraded, off, barred, -⟩ := Port.scoreLaw_iff.mp h.score
  exact Port.enter_law house rfl
    ⟨latency, window, ⟨checks, foreigns, conceals, losses, countUp_le _ _ _⟩, ⟨hm, steps⟩, reads⟩ h.resampler degraded
    (iff_of_false (mt off.mp hoff) (by simp)) (iff_of_false (mt barred.mp hbarred) (by simp))

/-- A measurement within the fault band locks a SEEDING port (R28, R42, R47). -/
theorem seed {sMeas : Nat} (hs : p.state = .seeding)
    (hm : ¬rateFault (nominalStep house p.rateCode) sMeas = true) (capture : Word32) :
    (p.seed (nominalStep house p.rateCode) sMeas capture).Law house := by
  have near := near_of_not_rateFault hm
  have applied := clampStep_near (nominalStep house p.rateCode) sMeas
  obtain ⟨latency, window, counters, -, -, slips⟩ := h.ranges
  obtain ⟨degraded, off, barred, run⟩ := Port.scoreLaw_iff.mp h.score
  obtain ⟨outside, -⟩ := h.resampler
  obtain ⟨-, -, settled⟩ := outside (by simp [hs])
  have goodRun : p.goodRun = 0 := run.2 (by simp [hs])
  simp only [Port.seed, Port.recentre, settled, Bool.false_eq_true, if_false]
  refine ⟨⟨latency, window, counters, ⟨near.le_max32, near.le_max32, applied.le_max32⟩, by norm_num, slips⟩,
    Port.scoreLaw_iff.mpr ⟨degraded, by simpa [hs] using off, by simpa [hs] using barred, by simp [goodRun]⟩,
    Port.windowLaw_iff.mpr ⟨by simp [PortState.writes], fun _ => ⟨by simp, h.capture⟩, ?_⟩,
    Port.resamplerLaw_of_locked rfl (fun _ => p.fader.giveOpen_towardOpen) (by simp), fun _ => ⟨near, applied⟩⟩
  rintro _ _ ⟨⟩
  exact Nat.zero_le _

/-- A measurement within the fault band moves the steps of a LOCKED port (R43 to R47). -/
theorem track {sMeas : Nat} (hs : p.state = .locked)
    (hm : ¬rateFault (nominalStep house p.rateCode) sMeas = true) (capture : Word32) :
    (p.track (nominalStep house p.rateCode) sMeas capture).Law house := by
  have near := near_of_not_rateFault hm
  obtain ⟨filtered, -⟩ := h.step hs
  have filtered := filterStep_near filtered near
  have applied := clampStep_near (nominalStep house p.rateCode)
    (filterStep p.tracker.sFilt sMeas + 256 * p.fillError)
  obtain ⟨latency, window, counters, -, reads⟩ := h.ranges
  refine ⟨⟨latency, window, counters, ⟨near.le_max32, filtered.le_max32, applied.le_max32⟩, reads⟩, h.score,
    Port.windowLaw_iff.mpr ⟨?_, fun _ => ⟨by simp [Port.track], h.capture⟩, ?_⟩, h.resampler,
    fun _ => ⟨filtered, applied⟩⟩
  · simp [Port.track, h.writes]
  · rintro _ _ ⟨⟩
    exact Nat.zero_le _

end Port.HandedLaw

theorem State.raise_port (c : Cond) (items : BitVec 64) (k : Fin 6) (s : State) :
    (s.raise c items).ports[k] = s.ports[k] := rfl

/-- The port after the completion of a full window. -/
theorem windowComplete_port {k : Fin 6} {s : State} {start capture : Word32}
    (hw : s.ports[k].tracker.window = .timing start (2 ^ s.ports[k].windowExp))
    (hs : s.ports[k].state.writes = true) (hc : s.ports[k].lastCapture = some capture) {sMeas s0 : Nat}
    (hm : measuredStep s.ports[k].windowExp (capture - start).toNat = sMeas)
    (h0 : nominalStep s.hcu.rate s.ports[k].rateCode = s0) : (windowComplete k s).ports[k] =
      if rateFault s0 sMeas then s.ports[k].rateFaulted sMeas
      else if s.ports[k].state = .seeding then s.ports[k].seed s0 sMeas capture
      else s.ports[k].track s0 sMeas capture := by
  rw [windowComplete_of_full hw hs hc hm h0]
  split
  · exact (State.raise_port _ _ k _).trans (State.withPort_self k _ s)
  split
  · exact State.withPort_self k _ s
  · exact State.withPort_self k _ s

/-- A completion makes the port lawful (R40 to R47). -/
theorem windowComplete_law {k : Fin 6} {s : State} (h : s.ports[k].HandedLaw s.hcu.rate) :
    (windowComplete k s).ports[k].Law s.hcu.rate := by
  by_cases full : ∃ start, s.ports[k].tracker.window = .timing start (2 ^ s.ports[k].windowExp)
  · obtain ⟨start, hw⟩ := full
    obtain ⟨capture, hc⟩ := Option.isSome_iff_exists.mp h.capture
    rw [windowComplete_port hw h.writes hc rfl rfl]
    split
    next => exact h.rateFaulted (measuredStep_le _ _)
    next passed =>
    split
    next seeding => exact h.seed seeding passed capture
    next tracking => exact h.track ((PortState.writes_iff.mp h.writes).resolve_left tracking) passed capture
  · rw [windowComplete_of_not_full fun start hw => absurd ⟨start, hw⟩ full]
    exact h.law_of_not_full fun start hw => full ⟨start, hw⟩

end Sys2Proof.Machine
end

section
/-! SUPPORT. A frame arrival at a port, part by part: the score update, hunting, writing; and that it keeps the port's
laws. -/

namespace Sys2Proof.Machine

/-! ## Changes of a port's record that keep its rank (R30, R83) -/

theorem set_rank {k : Fin 6} {p : Port} {ports : Vector Port 6} (h : p.rank = ports[k].rank) (j : Fin 6) :
    (ports.set k p)[j].rank = ports[j].rank := by
  by_cases hj : j = k
  · rw [hj, getElem_set_self, h]
  · rw [getElem_set_of_ne _ hj]

theorem Port.rank_eq_of_not_locked {p q : Port} (hp : p.state ≠ .locked) (hq : q.state ≠ .locked) :
    p.rank = q.rank := by
  rw [Port.rank, Port.rank, if_neg hp, if_neg hq]

/-- Where the port's rank stays as it is, no lane evaluates (R83). -/
theorem State.withPort_of_rank_eq {k : Fin 6} {p : Port} {s : State} (h : p.rank = s.ports[k].rank) :
    s.withPort k p = { s with ports := s.ports.set k p } := by
  simp only [State.withPort, State.withPorts, set_rank h, bne_self_eq_false]
  exact if_neg (by simp)

/-- A change that keeps the rank leaves no mark on the next change of the same port. -/
theorem State.withPort_withPort {k : Fin 6} {p q : Port} {s : State} (h : p.rank = s.ports[k].rank) :
    (s.withPort k p).withPort k q = s.withPort k q := by
  rw [State.withPort_of_rank_eq h]
  simp only [State.withPort, State.withPorts, set_rank h, Vector.set_set]

/-! ## The score update (R19, R20) -/

theorem Port.scored_eq (c : FrameClass) (p : Port) : (p.scoreFrame c).judgeDegraded = { p with
    score := (p.scoreFrame c).judgeDegraded.score, badChecks := (p.scoreFrame c).judgeDegraded.badChecks,
    foreigns := (p.scoreFrame c).judgeDegraded.foreigns, degraded := (p.scoreFrame c).judgeDegraded.degraded } := by
  cases c <;> rfl

theorem Port.scored_state (c : FrameClass) (p : Port) : (p.scoreFrame c).judgeDegraded.state = p.state := by
  cases c <;> rfl

theorem Port.scored_enable (c : FrameClass) (p : Port) : (p.scoreFrame c).judgeDegraded.enable = p.enable := by
  cases c <;> rfl

theorem Port.scored_goodRun (c : FrameClass) (p : Port) : (p.scoreFrame c).judgeDegraded.goodRun = p.goodRun := by
  cases c <;> rfl

theorem Port.scored_lastCapture (c : FrameClass) (p : Port) :
    (p.scoreFrame c).judgeDegraded.lastCapture = p.lastCapture := by
  cases c <;> rfl

theorem Port.scored_score (c : FrameClass) (p : Port) : (p.scoreFrame c).judgeDegraded.score =
    if c = .good then p.score - 1 else min (p.score + 8) 256 := by
  cases c <;> rfl

theorem Port.scored_badChecks (c : FrameClass) (p : Port) : (p.scoreFrame c).judgeDegraded.badChecks =
    if c = .badCheck then countUp max32 p.badChecks else p.badChecks := by
  cases c <;> rfl

theorem Port.scored_foreigns (c : FrameClass) (p : Port) : (p.scoreFrame c).judgeDegraded.foreigns =
    if c = .foreign then countUp max32 p.foreigns else p.foreigns := by
  cases c <;> rfl

theorem Port.scored_counters_le {p : Port} (checks : p.badChecks ≤ max32) (foreigns : p.foreigns ≤ max32)
    (c : FrameClass) : (p.scoreFrame c).judgeDegraded.badChecks ≤ max32 ∧
      (p.scoreFrame c).judgeDegraded.foreigns ≤ max32 := by
  rw [Port.scored_badChecks, Port.scored_foreigns]
  constructor
  · split
    · exact countUp_le _ _ _
    · exact checks
  · split
    · exact countUp_le _ _ _
    · exact foreigns

theorem Port.judgeDegraded_degraded (p : Port) : p.judgeDegraded.degraded =
    (decide (128 ≤ p.score) || (decide (96 ≤ p.score) && p.degraded)) := by
  simp only [Port.judgeDegraded]
  split
  next h => simp [h]
  next h =>
    split
    next low => simp [h, Nat.not_le.mpr low]
    next high => simp [h, Nat.not_lt.mp high]

theorem Port.scored_degraded (c : FrameClass) (p : Port) : (p.scoreFrame c).judgeDegraded.degraded =
    (decide (128 ≤ (p.scoreFrame c).judgeDegraded.score) ||
      (decide (96 ≤ (p.scoreFrame c).judgeDegraded.score) && p.degraded)) := by
  cases c <;> exact Port.judgeDegraded_degraded _

theorem warns_iff {before after : Port} : warns before after = true ↔ before.score < 96 ∧ 96 ≤ after.score := by
  simp [warns]

theorem Port.judgeDegraded_law {p : Port} (h : p.score ≤ 256) : p.judgeDegraded.DegradedLaw := by
  refine ⟨h, fun high => ?_, fun low => ?_⟩
  · have high : 128 ≤ p.score := high
    simp [Port.judgeDegraded_degraded, high]
  · have low : p.score < 96 := low
    have below : ¬96 ≤ p.score ∧ ¬128 ≤ p.score := by omega
    simp [Port.judgeDegraded_degraded, below]

theorem Port.scoreFrame_le {c : FrameClass} {p : Port} (h : p.score ≤ 256) : (p.scoreFrame c).score ≤ 256 := by
  cases c
  case good => exact (Nat.sub_le _ _).trans h
  all_goals exact Nat.min_le_right _ _

theorem PortState.handles_iff {st : PortState} : st.handles = true ↔ st = .hunt ∨ st = .seeding ∨ st = .locked := by
  cases st <;> simp [PortState.handles]

/-- What the score update leaves of a lawful port's laws: all, but that the score may have reached 256 (R19, R20). -/
theorem Port.Law.scored {p : Port} {house : HouseRate} (h : p.Law house) (c : FrameClass) (capture : Word32) :
    let q := ({ p with lastCapture := some capture }.scoreFrame c).judgeDegraded
    q.DegradedLaw ∧ q.Ranges ∧ q.WindowLaw ∧ q.ResamplerLaw ∧ q.StepLaw house := by
  obtain ⟨⟨latency, window, ⟨checks, foreigns, counters⟩, steps⟩, score, windows, resampler, step⟩ := h
  obtain ⟨⟨le, -⟩, -⟩ := Port.scoreLaw_iff.mp score
  obtain ⟨outside, inside, counts⟩ := windows
  obtain ⟨checks', foreigns'⟩ := Port.scored_counters_le (p := { p with lastCapture := some capture }) checks foreigns c
  refine ⟨Port.judgeDegraded_law (Port.scoreFrame_le le), ?_⟩
  rw [Port.scored_eq]
  exact ⟨⟨latency, window, ⟨checks', foreigns', counters⟩, steps⟩, ⟨outside, fun hw => ⟨(inside hw).1, rfl⟩, counts⟩,
    resampler, step⟩

/-- An update of a handled port's score that does not reach 256 keeps the port's laws (R19, R20). -/
theorem Port.Law.scored_of_not_barred {p : Port} {house : HouseRate} (h : p.Law house) (hs : p.state.handles = true)
    (c : FrameClass) (capture : Word32)
    (hn : ({ p with lastCapture := some capture }.scoreFrame c).judgeDegraded.score ≠ 256) :
    ({ p with lastCapture := some capture }.scoreFrame c).judgeDegraded.Law house := by
  obtain ⟨degraded, ranges, window, resampler, step⟩ := h.scored c capture
  obtain ⟨-, score, -⟩ := h
  obtain ⟨-, off, -, run⟩ := Port.scoreLaw_iff.mp score
  have hbarred : p.state ≠ .barred := by
    intro hb
    simp [hb, PortState.handles] at hs
  refine ⟨ranges, Port.scoreLaw_iff.mpr ⟨degraded, ?_⟩, window, resampler, step⟩
  rw [Port.scored_eq] at hn ⊢
  exact ⟨off, iff_of_false hn hbarred, run⟩

/-! ## Hunting (R22, R23) -/

/-- The port enters SEEDING, with cleared rings and a window that opens at `capture` (R23, R38). -/
def Port.seedFrom (capture : Word32) (p : Port) : Port :=
  { p with
    state := .seeding, goodRun := 0, written := 0, rings := zeroRings, lastFrame := Frame.zero,
    tracker := { p.tracker with window := .timing capture 0 } }

theorem seedingEntry_of_sixteen {k : Fin 6} {capture : Word32} {s : State} (hunt : s.ports[k].state = .hunt)
    (full : s.ports[k].goodRun = 16) (hc : s.ports[k].lastCapture = some capture) :
    seedingEntry k s = s.withPort k (s.ports[k].seedFrom capture) := by
  simp only [seedingEntry, Port.seedFrom, hunt, full, hc, and_self, if_true, Option.getD_some]

theorem seedingEntry_of_not {k : Fin 6} {s : State} (hn : ¬(s.ports[k].state = .hunt ∧ s.ports[k].goodRun = 16)) :
    seedingEntry k s = s := by
  simp only [seedingEntry]
  exact if_neg hn

/-- In HUNT the 16th good frame in a row enters SEEDING, and any other arrival is counted (R22, R23). -/
theorem arrivalAfterScore_of_hunt {k : Fin 6} {capture : Word32} {s : State} (hunt : s.ports[k].state = .hunt)
    (hc : s.ports[k].lastCapture = some capture) (c : FrameClass) (samples : Frame) :
    arrivalAfterScore k capture c samples s =
      if c = .good ∧ s.ports[k].goodRun = 15 then s.withPort k (s.ports[k].seedFrom capture)
      else s.withPort k (s.ports[k].hunt c) := by
  have hunted : (s.withPort k (s.ports[k].hunt c)).ports[k] = s.ports[k].hunt c := State.withPort_self k _ s
  have run : (s.ports[k].hunt c).goodRun = 16 ↔ c = .good ∧ s.ports[k].goodRun = 15 := by
    simp only [Port.hunt]
    split
    next good => simp [good]
    next bad => simp [bad]
  simp only [arrivalAfterScore]
  rw [if_pos hunt]
  split
  next full =>
    rw [seedingEntry_of_sixteen (capture := capture) (by rw [hunted]; exact hunt) (by rw [hunted, run]; exact full)
      (by rw [hunted]; exact hc), hunted]
    exact State.withPort_withPort rfl
  next short => exact seedingEntry_of_not (by rw [hunted, run]; exact fun h => short h.2)

theorem arrivalAfterScore_of_not_hunt {k : Fin 6} {capture : Word32} {s : State} (hunt : s.ports[k].state ≠ .hunt)
    (c : FrameClass) (samples : Frame) : arrivalAfterScore k capture c samples s =
      windowComplete k (s.withPort k { s.ports[k].writeArrival c samples with
        tracker := (s.ports[k].writeArrival c samples).tracker.hand capture }) := by
  simp only [arrivalAfterScore]
  exact if_neg hunt

theorem Port.Law.seedFrom {p : Port} {house : HouseRate} (h : p.Law house) (hunt : p.state = .hunt)
    {capture : Word32} (hc : p.lastCapture = some capture) : (p.seedFrom capture).Law house := by
  obtain ⟨ranges, score, -, resampler, -⟩ := h
  obtain ⟨degraded, off, barred, -⟩ := Port.scoreLaw_iff.mp score
  obtain ⟨outside, held, toward, pending⟩ := resampler
  have unlocked : p.state ≠ .locked := by simp [hunt]
  refine ⟨ranges, Port.scoreLaw_iff.mpr ⟨degraded, iff_of_false (mt off.mp (by simp [hunt])) nofun,
    iff_of_false (mt barred.mp (by simp [hunt])) nofun, Nat.zero_le _, fun _ => rfl⟩,
    Port.windowLaw_iff.mpr ⟨nofun, fun _ => ⟨nofun, by simp [Port.seedFrom, hc]⟩, ?_⟩,
    Port.resamplerLaw_of_not_locked nofun (outside unlocked) (held unlocked) (fun ho => unlocked (toward.mp ho).1),
    nofun⟩
  rintro _ _ ⟨⟩
  exact Nat.zero_le _

/-- An arrival in HUNT that does not enter SEEDING leaves a count of at most 15 (R22). -/
theorem Port.Law.hunt {p : Port} {house : HouseRate} (h : p.Law house) (hunt : p.state = .hunt) {c : FrameClass}
    (short : ¬(c = .good ∧ p.goodRun = 15)) : (p.hunt c).Law house := by
  obtain ⟨degraded, off, barred, bound, -⟩ := Port.scoreLaw_iff.mp h.score
  refine ⟨h.ranges, Port.scoreLaw_iff.mpr ⟨degraded, off, barred, ?_, fun hn => absurd hunt hn⟩, h.window, h.resampler,
    h.step⟩
  simp only [Port.hunt]
  split
  next good =>
    have : p.goodRun ≠ 15 := fun full => short ⟨good, full⟩
    omega
  next => exact Nat.zero_le _

/-! ## Writing (R24, R25, R39) -/

theorem Tracker.hand_countsWithin {t : Tracker} {bound : Nat} (h : t.CountsWithin (bound - 1)) (hb : 0 < bound)
    (capture : Word32) : (t.hand capture).CountsWithin bound := by
  intro start count hw
  simp only [Tracker.hand] at hw
  split at hw
  next idle => simp [idle] at hw
  next =>
    cases hw
    exact Nat.zero_le _
  next start' count' timing =>
    have := h start' count' timing
    cases hw
    omega

theorem Tracker.hand_ne_idle {t : Tracker} (h : t.window ≠ .idle) (capture : Word32) :
    (t.hand capture).window ≠ .idle := by
  simp only [Tracker.hand]
  split
  next idle => exact absurd idle h
  next => simp
  next => simp

theorem Tracker.hand_eq (capture : Word32) (t : Tracker) : t.hand capture = { t with window :=
    match t.window with
    | .idle => .idle
    | .waiting => .timing capture 0
    | .timing start count => .timing start (count + 1) } := by
  obtain ⟨window, sMeas, sFilt, sApplied⟩ := t
  cases window <;> rfl

theorem Port.writeArrival_eq (c : FrameClass) (samples : Frame) (p : Port) : p.writeArrival c samples =
    let frame := if c = .good then samples else p.lastFrame
    { p with
      rings := Vector.ofFn fun t => p.rings[t].set (p.written.toNat % 64) frame[t] (Nat.mod_lt _ (by decide)),
      written := p.written + 1, lastFrame := frame,
      conceals := if c = .good then p.conceals else countUp max32 p.conceals } := by
  cases c <;> rfl

/-- An arrival that is written and handed to the tracker (R24, R39). -/
theorem Port.Law.handed {p : Port} {house : HouseRate} (h : p.Law house) (hw : p.state.writes = true)
    (c : FrameClass) (samples : Frame) (capture : Word32) :
    Port.HandedLaw house { p.writeArrival c samples with tracker := p.tracker.hand capture } := by
  obtain ⟨⟨latency, window, ⟨checks, foreigns, conceals, counters⟩, steps⟩, score, windows, resampler, step⟩ := h
  obtain ⟨-, inside, counts⟩ := Port.windowLaw_iff.mp windows
  obtain ⟨window', capture'⟩ := inside hw
  have handed := Tracker.hand_countsWithin counts (by positivity) capture
  have timing := Tracker.hand_ne_idle window' capture
  rw [Port.writeArrival_eq]
  rw [Tracker.hand_eq] at handed timing ⊢
  refine ⟨⟨latency, window, ⟨checks, foreigns, ?_, counters⟩, steps⟩, score, hw, timing, capture', handed, resampler,
    step⟩
  by_cases good : c = .good
  · simpa only [good, if_true] using conceals
  · simpa only [good, if_false] using countUp_le _ _ _

/-! ## An arrival keeps the port's laws -/

theorem Port.writeArrival_tracker (c : FrameClass) (samples : Frame) (p : Port) :
    (p.writeArrival c samples).tracker = p.tracker := by
  rw [Port.writeArrival_eq]

theorem windowComplete_withPort_law {k : Fin 6} {s : State} {q : Port} (h : q.HandedLaw s.hcu.rate) :
    (windowComplete k (s.withPort k q)).ports[k].Law s.hcu.rate := by
  have lawful := windowComplete_law (k := k) (s := s.withPort k q)
  rw [State.withPort_self, State.withPort_hcu] at lawful
  exact lawful h

theorem arrivalAfterScore_law {k : Fin 6} {capture : Word32} {s : State} (h : s.ports[k].Law s.hcu.rate)
    (hs : s.ports[k].state.handles = true) (hc : s.ports[k].lastCapture = some capture) (c : FrameClass)
    (samples : Frame) : (arrivalAfterScore k capture c samples s).ports[k].Law s.hcu.rate := by
  by_cases hunt : s.ports[k].state = .hunt
  · rw [arrivalAfterScore_of_hunt hunt hc]
    split
    next => rw [State.withPort_self]; exact h.seedFrom hunt hc
    next short => rw [State.withPort_self]; exact h.hunt hunt short
  · have hw : s.ports[k].state.writes = true :=
      PortState.writes_iff.mpr ((PortState.handles_iff.mp hs).resolve_left hunt)
    have handed := h.handed hw c samples capture
    rw [arrivalAfterScore_of_not_hunt hunt, Port.writeArrival_tracker]
    exact windowComplete_withPort_law handed

theorem State.raiseIf_port (on : Bool) (c : Cond) (items : BitVec 64) (k : Fin 6) (s : State) :
    (s.raiseIf on c items).ports[k] = s.ports[k] := by
  cases on <;> rfl

/-- An arrival that is handled: the score update `q` with its warning, which gives `t`, then barring or what follows
(R18 to R24). -/
theorem portArrival_of_handles {k : Fin 6} {s t : State} {capture : Word32} {body : List Byte} {c : FrameClass}
    {q : Port} (hs : s.ports[k].state.handles = true) (hc : s.ports[k].classify body = c)
    (hq : ({ s.ports[k] with lastCapture := some capture }.scoreFrame c).judgeDegraded = q)
    (ht : (s.withPort k q).raiseIf (warns s.ports[k] q) .portWarn (portBit k) = t) : portArrival k capture body s =
      if q.score = 256 then (t.withPort k (q.enter .barred)).raise .portBarred (portBit k)
      else arrivalAfterScore k capture c (bodySamples body) t := by
  simp only [portArrival, hs, if_true, hc, hq, ht]

/-- An arrival at a port keeps the port's laws (R18 to R24). -/
theorem portArrival_law {k : Fin 6} {s : State} (h : s.ports[k].Law s.hcu.rate) (capture : Word32)
    (body : List Byte) : (portArrival k capture body s).ports[k].Law s.hcu.rate := by
  by_cases hs : s.ports[k].state.handles = true
  · obtain ⟨c, hc⟩ : ∃ c, s.ports[k].classify body = c := ⟨_, rfl⟩
    obtain ⟨q, hq⟩ : ∃ q, ({ s.ports[k] with lastCapture := some capture }.scoreFrame c).judgeDegraded = q := ⟨_, rfl⟩
    obtain ⟨t, ht⟩ : ∃ t, (s.withPort k q).raiseIf (warns s.ports[k] q) .portWarn (portBit k) = t := ⟨_, rfl⟩
    have port : t.ports[k] = q := by
      rw [← ht]
      exact (State.raiseIf_port _ _ _ k _).trans (State.withPort_self k q s)
    have hcu : t.hcu = s.hcu := by simp [← ht]
    rw [portArrival_of_handles hs hc hq ht]
    split
    next full =>
      have barred := h.scored c capture
      rw [hq] at barred
      obtain ⟨degraded, ranges, -, resampler, -⟩ := barred
      obtain ⟨-, ⟨off, -⟩, -⟩ := h
      have enabled : q.enable = s.ports[k].enable := by rw [← hq, Port.scored_enable]
      have on : s.ports[k].state ≠ .off := fun ho => by rw [ho] at hs; cases hs
      rw [State.raise_port, State.withPort_self]
      exact Port.enter_law s.hcu.rate rfl ranges resampler degraded
        (iff_of_false (enabled ▸ mt off.mp on) nofun) (iff_of_true full rfl)
    next short =>
      have lawful := h.scored_of_not_barred hs c capture (by rwa [hq])
      have state : q.state = s.ports[k].state := by rw [← hq, Port.scored_state]
      have captured : q.lastCapture = some capture := by rw [← hq, Port.scored_lastCapture]
      rw [hq, ← port, ← hcu] at lawful
      rw [← hcu]
      exact arrivalAfterScore_law lawful (by rwa [port, state]) (by rwa [port]) c _
  · rwa [portArrival, if_neg hs]

end Sys2Proof.Machine
end

section
/-! SUPPORT. What every step keeps: a property that each operation of the events and each request keeps is kept by
every command and by every step. -/

namespace Sys2Proof.Machine

/-! ## What every step keeps -/

/-- The properties that every operation of the part's events keeps, each where the part can make it. -/
structure KeptByEvents (P : State → Prop) : Prop where
  /-- The model's own queue and its count of free values. -/
  ownFields : ∀ (draws : Nat) (pending : List Instr) (s : State), P s → P { s with draws := draws, pending := pending }
  withHcu : ∀ (h : Hcu) (s : State), h.rate = s.hcu.rate → P s → P (s.withHcu h)
  raise : ∀ (c : Cond) (items : BitVec 64) (s : State), P s → P (s.raise c items)
  restartNotice : ∀ s : State, P s → P (restartNotice s)
  houseSample : ∀ s : State, P s → P (houseSample s)
  loss : ∀ (k : Fin 6) (s : State), s.ports[k].state.writes = true → P s → P (loss k s)
  withReceiver : ∀ (k : Fin 6) (r : Receiver) (s : State), P s → P (s.withReceiver k r)
  portArrival : ∀ (k : Fin 6) (capture : Word32) (body : List Byte) (s : State), P s → P (portArrival k capture body s)
  windowComplete : ∀ (k : Fin 6) (s : State), P s → P (windowComplete k s)
  seedingEntry : ∀ (k : Fin 6) (s : State), P s → P (seedingEntry k s)
  arrivalAtShut : ∀ (f : FaderId) (s : State), P s → P (arrivalAtShut f s)
  activateLane : ∀ (n : Fin 48) (s : State), P s → P (activateLane n s)
  completeCue : ∀ (i : Fin 32) (s : State), P s → P (completeCue i s)
  pinReset : ∀ s : State, P s → P (pinReset s)

theorem mem_boundaryTimeouts {s : State} {k : Fin 6} :
    k ∈ boundaryTimeouts s ↔ timedOut s.hcu.nextTicks k s = true := by
  simp [boundaryTimeouts]

theorem timedOut_writes {ticks : Word32} {k : Fin 6} {s : State} (h : timedOut ticks k s = true) :
    s.ports[k].state.writes = true :=
  PortState.writes_iff.mpr (timedOut_iff.mp h).1

theorem timeoutDue_writes {k : Fin 6} {s : State} (h : timeoutDue k s = true) : s.ports[k].state.writes = true := by
  obtain ⟨capture, hw, -⟩ := timeoutDue_iff.mp h
  exact PortState.writes_iff.mpr hw

/-- One turn of `lossesFirst`: no timeout falls due, or the event comes first, or one of the timeouts does. -/
theorem lossesFirst_succ (fuel : Nat) (s : State) :
    (boundaryTimeouts s = [] ∧ lossesFirst (fuel + 1) s = s) ∨
    (boundaryTimeouts s ≠ [] ∧ lossesFirst (fuel + 1) s = { s with draws := s.draws + 1 }) ∨
    ∃ k ∈ boundaryTimeouts s, lossesFirst (fuel + 1) s = lossesFirst fuel (loss k { s with draws := s.draws + 1 }) := by
  rw [lossesFirst]
  cases hb : boundaryTimeouts s with
  | nil => exact .inl ⟨rfl, rfl⟩
  | cons k rest =>
    refine .inr ?_
    dsimp only
    have bound : Config.dueChoice s.draws % (rest.length + 2) < rest.length + 2 := Nat.mod_lt _ (by omega)
    cases hd : Config.dueChoice s.draws % (rest.length + 2) with
    | zero => exact .inl ⟨by simp, rfl⟩
    | succ n =>
      have hn : n < (k :: rest).length := by
        rw [hd] at bound
        simpa using bound
      refine .inr ⟨_, List.getElem_mem hn, ?_⟩
      rw [← List.getD_eq_getElem _ k hn]

namespace KeptByEvents
variable {P : State → Prop} (kept : KeptByEvents P) {s : State}
include kept

theorem draw (hs : P s) : P { s with draws := s.draws + 1 } := kept.ownFields (s.draws + 1) s.pending s hs

theorem lossesFirst (fuel : Nat) (hs : P s) : P (lossesFirst fuel s) := by
  induction fuel generalizing s with
  | zero => exact hs
  | succ fuel ih =>
    rcases lossesFirst_succ fuel s with ⟨-, h⟩ | ⟨-, h⟩ | ⟨k, hk, h⟩
    · rwa [h]
    · rw [h]; exact kept.draw hs
    · rw [h]
      exact ih (kept.loss k _ (timedOut_writes (mem_boundaryTimeouts.mp hk)) (kept.draw hs))

theorem endSample (hs : P s) : P (endSample s) := kept.houseSample _ (kept.lossesFirst _ hs)

theorem settle (hs : P s) : P (settle s) := by
  unfold Machine.settle
  split
  · exact kept.endSample hs
  · exact hs

theorem referenceLoss (atEdge : Bool) (hs : P s) : P (referenceLoss atEdge s) := by
  have rate : (s.hcu.lose atEdge).rate = s.hcu.rate := by
    unfold Hcu.lose
    dsimp only
    repeat' split
    all_goals rfl
  exact kept.settle (kept.restartNotice _ (kept.raise _ _ _ (kept.withHcu _ _ rate hs)))

theorem qualificationComplete (hs : P s) : P (qualificationComplete s) := by
  unfold Machine.qualificationComplete
  split
  · split
    · exact kept.settle (kept.restartNotice _ (kept.raise _ _ _ (kept.withHcu _ _ rfl hs)))
    · exact hs
  · exact hs

theorem followedEdge (w : Watch) (hs : P s) : P (followedEdge w s) := by
  unfold Machine.followedEdge
  split
  · exact kept.withHcu _ _ rfl hs
  · dsimp only
    split
    · exact kept.settle (kept.withHcu _ _ rfl hs)
    · exact kept.referenceLoss _ hs

theorem candidateEdge (w : Watch) (hs : P s) : P (candidateEdge w s) := by
  unfold Machine.candidateEdge
  split
  · exact kept.withHcu _ _ rfl hs
  · dsimp only
    split
    · exact kept.qualificationComplete (kept.withHcu _ _ rfl hs)
    · exact kept.withHcu _ _ rfl hs

theorem referenceEdge (src : ClockSource) (hs : P s) : P (referenceEdge src s) := by
  unfold Machine.referenceEdge
  split
  · exact kept.followedEdge _ hs
  · split
    · exact kept.candidateEdge _ hs
    · exact hs

theorem watchSilence (src : ClockSource) (hs : P s) : P (watchSilence src s) := by
  unfold Machine.watchSilence
  split
  · split
    · exact kept.referenceLoss _ hs
    · exact hs
  · split
    · split
      · exact kept.withHcu _ _ rfl hs
      · exact hs
    · exact hs

theorem arrive (k : Fin 6) (body : List Byte) (hs : P s) : P (arrive k body s) := by
  unfold Machine.arrive
  dsimp only
  split
  · exact hs
  split
  · exact kept.portArrival _ _ _ _ hs
  split
  · exact kept.portArrival _ _ _ _ (kept.referenceEdge _ (kept.draw hs))
  · exact kept.referenceEdge _ (kept.portArrival _ _ _ _ (kept.draw hs))

theorem ingressByte (k : Fin 6) (b : Byte) (hs : P s) : P (ingressByte k b s) := by
  unfold Machine.ingressByte
  split
  · split <;> exact kept.withReceiver _ _ _ hs
  · split
    · exact kept.arrive _ _ (kept.withReceiver _ _ _ hs)
    · exact kept.withReceiver _ _ _ hs

theorem frameTimeout (k : Fin 6) (hs : P s) : P (frameTimeout k s) := by
  unfold Machine.frameTimeout
  split
  next due => exact kept.loss k s (timeoutDue_writes due) hs
  next => exact hs

/-- Every command answers a state that keeps the property. -/
theorem exec (requests : KeptByRequests P) (c : Instr) (hs : P s) : ∃ t, exec c s = .next t ∧ P t := by
  cases hq : requested? c with
  | some q => exact ⟨_, exec_requested hq s, requests.request _ _ hs⟩
  | none =>
    cases c with
    | pinReset => exact ⟨_, rfl, kept.pinReset s hs⟩
    | houseSample => exact ⟨_, rfl, kept.endSample hs⟩
    | wordclockEdge => exact ⟨_, rfl, kept.referenceEdge .wordclock hs⟩
    | watchSilence src => exact ⟨_, rfl, kept.watchSilence src hs⟩
    | qualificationComplete => exact ⟨_, rfl, kept.qualificationComplete hs⟩
    | frameArrival k bytes => exact ⟨_, rfl, foldl_kept (P := P) (fun _ b ht => kept.ingressByte k b ht) bytes hs⟩
    | frameTimeout k => exact ⟨_, rfl, kept.frameTimeout k hs⟩
    | windowComplete k => exact ⟨_, rfl, kept.windowComplete k s hs⟩
    | seedingEntry k => exact ⟨_, rfl, kept.seedingEntry k s hs⟩
    | arrivalAtShut f => exact ⟨_, rfl, kept.arrivalAtShut f s hs⟩
    | arrivalAtOpen f => exact ⟨_, rfl, hs⟩
    | cueActivation n => exact ⟨_, rfl, kept.activateLane n s hs⟩
    | cueCompletion i => exact ⟨_, rfl, kept.completeCue i s hs⟩
    | controlFrameEnd => exact ⟨_, rfl, by split <;> [exact requests.endFrame hs; exact hs]⟩
    | framingError => exact ⟨_, rfl, by split <;> [exact hs; exact requests.linkFault _ _ _ hs]⟩
    | abort => exact ⟨_, rfl, requests.linkByte _ _ (requests.linkByte _ _ hs)⟩
    | replyEnd => exact ⟨_, rfl, requests.replyEnd hs⟩
    | restartExecute =>
      refine ⟨_, rfl, ?_⟩
      split
      · split
        · exact requests.restart s hs
        · exact hs
      · exact hs
    | syncWord k => exact ⟨_, rfl, kept.ingressByte k _ (kept.ingressByte k _ hs)⟩
    | requestPairByte b stopBit => exact ⟨_, rfl, requests.linkByte b stopBit hs⟩
    | _ => simp [requested?] at hq

theorem passTime (hs : P s) : P (passTime s) := by
  unfold Machine.passTime
  split
  · exact kept.withHcu _ _ rfl hs
  · exact kept.ownFields s.draws _ s hs
  · exact kept.ownFields _ _ s hs

/-- A step runs the command at the queue's front or lets time pass, and both keep the property. -/
theorem step (requests : KeptByRequests P) {t : State} (hs : P s) (ht : step s = .next t) : P t := by
  unfold Machine.step at ht
  split at ht
  next => exact Host.Outcome.next.inj ht ▸ kept.passTime hs
  next c rest _ =>
    obtain ⟨u, hu, keeps⟩ := kept.exec requests c (kept.ownFields s.draws rest s hs)
    exact Host.Outcome.next.inj (hu.symm.trans ht) ▸ keeps

end KeptByEvents

end Sys2Proof.Machine
end

section
/-! SUPPORT. The laws of the ports, kept by every operation of the part, and so by every step. -/

namespace Sys2Proof.Machine

/-! ## The requests that leave the ports alone -/

/-- Only the requests of chapters 1 and 2 and Counters Clear change a port's record. -/
def changesPorts : Request → Bool
  | .countersClear => true
  | .clockRate _ => true
  | .clockSource _ => true
  | .portSetup _ _ _ _ _ => true
  | .portAccept _ _ _ => true
  | .portRevive _ => true
  | _ => false

theorem take_ports {q : Request} (hq : changesPorts q = false) (s : State) : (take q s).1.ports = s.ports := by
  cases q with
  | countersClear => cases hq
  | clockRate => cases hq
  | clockSource => cases hq
  | portSetup => cases hq
  | portAccept => cases hq
  | portRevive => cases hq
  | identify => rfl
  | status => rfl
  | restart => rfl
  | clockQuery => rfl
  | cueSurvey => rfl
  | conditionSurvey => rfl
  | unknown => rfl
  | malformed => rfl
  | go => simp only [take, takeGo]; split <;> simp
  | halt => simp only [take, takeHalt]; split <;> simp
  | portQuery => simp only [take, takePortQuery]; split <;> rfl
  | laneBind => simp only [take, takeLaneBind]; repeat' split
                all_goals simp
  | laneSelect => simp only [take, takeLaneSelect]; repeat' split
                  all_goals simp
  | laneMute => simp only [take, takeLaneMute]; split <;> simp
  | laneQuery => simp only [take, takeLaneQuery]; split <;> rfl
  | routeWrite => simp only [take, takeRouteWrite]; repeat' split
                  all_goals simp
  | routeQuery => simp only [take, takeRouteQuery]; split <;> rfl
  | cueLoad => simp only [take, takeCueLoad]; repeat' split
               all_goals simp
  | cueAbort => simp only [take, takeCueAbort]; repeat' split
                all_goals simp
  | cueAbortAll => simp [take, takeCueAbortAll]
  | cueQuery => simp only [take, takeCueQuery]; split <;> rfl
  | lineSetup => simp only [take, takeLineSetup]; repeat' split
                 all_goals simp
  | lineMute => simp only [take, takeLineMute]; repeat' split
                all_goals simp
  | lineQuery => simp only [take, takeLineQuery]; split <;> rfl
  | conditionTake => simp only [take, takeConditionTake]; split <;> rfl
  | conditionRelease => simp only [take, takeConditionRelease]; split <;> rfl
  | conditionMask => simp only [take, takeConditionMask]; split <;> rfl
  | conditionClear => simp only [take, takeConditionClear]; split <;> rfl

/-! ## The laws of the ports, through the operations of the part -/

theorem PortLaw.port {s : State} (hs : PortLaw s) (k : Fin 6) : s.ports[k].Law s.hcu.rate :=
  portLaw_iff.mp hs k

theorem PortLaw.of_same {s t : State} (hs : PortLaw s) (ports : t.ports = s.ports) (hcu : t.hcu.rate = s.hcu.rate) :
    PortLaw t := by
  refine portLaw_iff.mpr fun k => ?_
  rw [ports, hcu]
  exact hs.port k

theorem PortLaw.of_mapAll {s t : State} (hs : PortLaw s) {f : Port → Port} (ports : t.ports = mapAll s.ports f)
    (lawful : ∀ p : Port, p.Law s.hcu.rate → (f p).Law t.hcu.rate) : PortLaw t := by
  refine portLaw_iff.mpr fun k => ?_
  rw [ports, Fin.getElem_fin, getElem_mapAll]
  exact lawful _ (hs.port k)

theorem PortLaw.of_touches {k : Fin 6} {s t : State} (hs : PortLaw s) (touched : TouchesPort k s t)
    (port : t.ports[k].Law s.hcu.rate) : PortLaw t := by
  refine portLaw_iff.mpr fun j => ?_
  rw [touched.hcu]
  by_cases hj : j = k
  · rwa [hj]
  · rw [touched.ports j hj]
    exact hs.port j

theorem PortLaw.withPort {k : Fin 6} {s : State} (hs : PortLaw s) {p : Port} (lawful : p.Law s.hcu.rate) :
    PortLaw (s.withPort k p) :=
  hs.of_touches ((TouchesPort.refl k s).withPort p) (by rwa [State.withPort_self])

theorem signalPath_ports (s : State) : (signalPath s).ports = mapAll s.ports fun p => p.houseSample.port := by
  simp [signalPath, portsStage, mapAll]

theorem houseSample_ports (s : State) : (houseSample s).ports = mapAll s.ports fun p => p.houseSample.port := by
  simp only [houseSample, signalPath_ports]

theorem Hcu.boundary_rate (t : Nat) (h : Hcu) : (h.boundary t).rate = h.rate := by
  rw [Hcu.boundary_eq]

theorem houseSample_portLaw {s : State} (hs : PortLaw s) : PortLaw (houseSample s) :=
  hs.of_mapAll (houseSample_ports s) fun p hp => by
    rw [houseSample_hcu, Hcu.boundary_rate]
    exact Port.Law.houseSample hp

/-- A lawful window is never full between two events (R39, R40). -/
theorem windowComplete_of_law {k : Fin 6} {s : State} (h : s.ports[k].Law s.hcu.rate) : windowComplete k s = s := by
  obtain ⟨-, -, windows, -⟩ := h
  obtain ⟨-, -, counts⟩ := Port.windowLaw_iff.mp windows
  refine windowComplete_of_not_full fun start hw => ?_
  have bound := counts start _ hw
  have full : 0 < 2 ^ s.ports[k].windowExp := by positivity
  omega

/-- A lawful count is never 16 between two events (R22, R23). -/
theorem seedingEntry_of_law {k : Fin 6} {s : State} (h : s.ports[k].Law s.hcu.rate) : seedingEntry k s = s := by
  obtain ⟨-, ⟨-, -, -, -, -, bound, -⟩, -⟩ := h
  exact seedingEntry_of_not fun full => by omega

theorem arrivalAtShut_portLaw {s : State} (hs : PortLaw s) (f : FaderId) : PortLaw (arrivalAtShut f s) := by
  cases f with
  | port k =>
    simp only [arrivalAtShut]
    split
    next shut => exact (hs.withPort ((hs.port k).onShut shut)).of_same (State.raiseIf_ports _ _ _ _) (by simp)
    next => exact hs
  | lane n => exact hs.of_same (by simp only [arrivalAtShut]; split <;> simp) (by simp)
  | line n => exact hs

theorem portLaw_keptByEvents : KeptByEvents PortLaw where
  ownFields _ _ _ hs := hs
  withHcu _ _ rate hs := hs.of_same rfl rate
  raise _ _ _ hs := hs
  restartNotice _ hs := hs.of_mapAll rfl fun _ hp => hp.notice
  houseSample _ hs := houseSample_portLaw hs
  loss k _ hw hs := (hs.withPort ((hs.port k).lost hw)).of_same rfl rfl
  withReceiver k _ s hs := hs.of_touches (withReceiver_touches k _ s) (by
    rw [State.withReceiver_ports, getElem_set_self]
    exact (hs.port k).withInput _ s.ports[k].acceptTag s.ports[k].acceptMask)
  portArrival k capture body s hs :=
    hs.of_touches (portArrival_touches k capture body s) (portArrival_law (hs.port k) capture body)
  windowComplete k _ hs := by rwa [windowComplete_of_law (hs.port k)]
  seedingEntry k _ hs := by rwa [seedingEntry_of_law (hs.port k)]
  arrivalAtShut f _ hs := arrivalAtShut_portLaw hs f
  activateLane n s hs := hs.of_same (activateLane_ports s n) (by rw [activateLane_hcu])
  completeCue i s hs := hs.of_same (completeCue_ports s i) (by rw [completeCue_hcu])
  pinReset _ _ := reset_portLaw

/-! ## The requests -/

theorem within_eq_some {lo hi n : Nat} {b : Byte} (h : within lo hi b = some n) : lo ≤ n ∧ n ≤ hi := by
  unfold within at h
  split at h
  next bounds => exact Option.some.inj h ▸ bounds
  next => cases h

theorem takePortSetup_portLaw {s : State} (hs : PortLaw s) (port enable rate latency window : Byte) :
    PortLaw (takePortSetup port enable rate latency window s).1 := by
  unfold takePortSetup
  split
  · exact hs
  split
  next k e r l w _ _ _ hl hw =>
    exact (hs.withPort (((hs.port k).setup e r (within_eq_some hl) (within_eq_some hw)).resync _) :)
  next => exact hs

theorem takePortAccept_portLaw {s : State} (hs : PortLaw s) (port tag mask : Byte) :
    PortLaw (takePortAccept port tag mask s).1 := by
  unfold takePortAccept
  split
  next k _ => exact (hs.withPort ((hs.port k).withInput s.ports[k].receiver tag mask) :)
  next => exact hs

theorem takePortRevive_portLaw {s : State} (hs : PortLaw s) (port : Byte) : PortLaw (takePortRevive port s).1 := by
  unfold takePortRevive
  split
  next k _ =>
    dsimp only
    split
    next barred => exact (hs.withPort ((hs.port k).revive barred) :)
    next => exact hs
  next => exact hs

theorem takeClockRate_portLaw {s : State} (hs : PortLaw s) (code : Byte) : PortLaw (takeClockRate code s).1 := by
  unfold takeClockRate
  split
  · exact hs
  split
  · exact hs
  next r _ =>
    split
    · exact hs
    · have changed : PortLaw ((s.withPorts (mapAll s.ports Port.rateChanged)).withHcu (s.hcu.changeRate r)) :=
        hs.of_mapAll (State.withPorts_ports s _) fun _ hp => hp.rateChanged _
      refine portLaw_keptByEvents.settle ?_
      split
      · exact changed
      · exact portLaw_keptByEvents.restartNotice _ changed

theorem takeClockSource_portLaw {s : State} (hs : PortLaw s) (code : Byte) : PortLaw (takeClockSource code s).1 := by
  unfold takeClockSource
  split
  · exact hs
  next src _ =>
    split
    · exact hs
    split
    · have internal : PortLaw (s.withHcu s.hcu.requestInternal) :=
        hs.of_same rfl (by simp only [State.withHcu_hcu, Hcu.requestInternal]; split <;> rfl)
      dsimp only
      split
      · exact internal
      · exact portLaw_keptByEvents.settle (portLaw_keptByEvents.restartNotice _ internal)
    · exact hs.of_same rfl (by simp only [State.withHcu_hcu, Hcu.request]; repeat' split
                               all_goals rfl)

theorem take_portLaw {s : State} (hs : PortLaw s) (q : Request) : PortLaw (take q s).1 := by
  cases hq : changesPorts q with
  | false =>
    refine hs.of_same (take_ports hq s) (congrArg Hcu.rate (take_hcu s ?_ ?_))
    · rintro code rfl
      cases hq
    · rintro code rfl
      cases hq
  | true =>
    cases q with
    | countersClear => exact hs.of_mapAll rfl fun _ hp => hp.clearCounters
    | clockRate code => exact takeClockRate_portLaw hs code
    | clockSource code => exact takeClockSource_portLaw hs code
    | portSetup port enable rate latency window => exact takePortSetup_portLaw hs port enable rate latency window
    | portAccept port tag mask => exact takePortAccept_portLaw hs port tag mask
    | portRevive port => exact takePortRevive_portLaw hs port
    | _ => cases hq

theorem portLaw_keptByRequests : KeptByRequests PortLaw where
  take q _ hs := take_portLaw hs q
  restart _ hs := hs.of_mapAll rfl fun _ hp => hp.restart _
  withLink _ _ hs := hs
  linkFault _ _ _ hs := hs

/-- Settles O54: every operation of the part keeps the laws of each port. -/
theorem stepKeepsPortLaw : Obligations.StepKeepsPortLaw := fun _ _ hs ht =>
  portLaw_keptByEvents.step portLaw_keptByRequests hs ht

end Sys2Proof.Machine
end

section
/-! SUPPORT. The bytes that reach a port, one by one, and the frame that they complete. -/

namespace Sys2Proof.Machine

/-! ## Byte by byte (R16) -/

theorem State.withReceiver_receiver (k : Fin 6) (r : Receiver) (s : State) :
    (s.withReceiver k r).ports[k].receiver = r := by
  rw [State.withReceiver_ports, getElem_set_self]

theorem State.withReceiver_withReceiver (k : Fin 6) (r r' : Receiver) (s : State) :
    (s.withReceiver k r).withReceiver k r' = s.withReceiver k r' := by
  simp [State.withReceiver]

/-- In search a byte 0x5C right after 0xB3 begins the body, and any other byte is kept in hand. -/
theorem ingressByte_of_search {k : Fin 6} {s : State} {inHand : Option Byte}
    (h : s.ports[k].receiver = .search inHand) (b : Byte) : ingressByte k b s =
      s.withReceiver k (if inHand = some 0xB3#8 ∧ b = 0x5C#8 then .collect [] else .search (some b)) := by
  simp only [ingressByte, h]
  split <;> rfl

theorem ingressByte_of_collect {k : Fin 6} {s : State} {body : List Byte}
    (h : s.ports[k].receiver = .collect body) (b : Byte) : ingressByte k b s =
      if body.length < 25 then s.withReceiver k (.collect (body ++ [b]))
      else arrive k (body ++ [b]) (s.withReceiver k (.search none)) := by
  simp only [ingressByte, h, ← Nat.not_lt, ite_not]

/-- Bytes that do not complete a body are collected. -/
theorem ingressBytes_of_collect (k : Fin 6) (s : State) (bytes body : List Byte)
    (h : body.length + bytes.length ≤ 25) :
    bytes.foldl (fun t b => ingressByte k b t) (s.withReceiver k (.collect body)) =
      s.withReceiver k (.collect (body ++ bytes)) := by
  induction bytes generalizing body with
  | nil => simp
  | cons b bytes ih =>
    rw [List.length_cons] at h
    rw [List.foldl_cons, ingressByte_of_collect (State.withReceiver_receiver k _ s), if_pos (by omega),
      State.withReceiver_withReceiver, ih _ (by rw [List.length_append, List.length_singleton]; omega),
      List.append_assoc, List.singleton_append]

/-- The sync word begins the body, whatever the receiver has in hand. -/
theorem ingressBytes_sync {k : Fin 6} {s : State} {inHand : Option Byte} (h : s.ports[k].receiver = .search inHand) :
    ingressByte k 0x5C#8 (ingressByte k 0xB3#8 s) = s.withReceiver k (.collect []) := by
  rw [ingressByte_of_search h, if_neg fun sync => absurd sync.2 (by decide),
    ingressByte_of_search (State.withReceiver_receiver k _ s), if_pos ⟨rfl, rfl⟩, State.withReceiver_withReceiver]

/-- Sync word and body at a searching port are one arrival. -/
theorem ingressBytes_frame {k : Fin 6} {s : State} {inHand : Option Byte} (h : s.ports[k].receiver = .search inHand)
    {body : List Byte} (hb : body.length = 26) :
    (0xB3#8 :: 0x5C#8 :: body).foldl (fun t b => ingressByte k b t) s =
      arrive k body (s.withReceiver k (.search none)) := by
  obtain ⟨init, last, rfl⟩ : ∃ init last, body = init ++ [last] :=
    ⟨body.dropLast, body.getLast (by rintro rfl; cases hb), (List.dropLast_append_getLast _).symm⟩
  have hlen : init.length = 25 := by simpa using hb
  rw [List.foldl_cons, List.foldl_cons, ingressBytes_sync h, List.foldl_append,
    ingressBytes_of_collect k s init [] (by simp [hlen]), List.nil_append, List.foldl_cons, List.foldl_nil,
    ingressByte_of_collect (State.withReceiver_receiver k _ s), if_neg (by omega), State.withReceiver_withReceiver]

/-! ## A reference edge and the house sample that it may make (R6, R7, R8) -/

/-- From `s` to `t` no house sample event has been made, or `t` is what one leaves. -/
def CountsOrEnds (s t : State) : Prop := t.hcu.count = s.hcu.count ∨ ∃ u, t = houseSample u

theorem settle_countsOrEnds {s t : State} (h : t.hcu.count = s.hcu.count) : CountsOrEnds s (settle t) := by
  unfold settle
  split
  · exact .inr ⟨_, rfl⟩
  · exact .inl h

theorem Hcu.lose_count (atEdge : Bool) (h : Hcu) : (h.lose atEdge).count = h.count := by
  simp only [Hcu.lose]
  repeat' split
  all_goals rfl

theorem referenceLoss_countsOrEnds (atEdge : Bool) (s : State) : CountsOrEnds s (referenceLoss atEdge s) :=
  settle_countsOrEnds (by simp [Hcu.lose_count])

theorem qualificationComplete_countsOrEnds {s t : State} (h : t.hcu.count = s.hcu.count) :
    CountsOrEnds s (qualificationComplete t) := by
  cases hc : t.hcu.candidate with
  | none =>
    simp only [qualificationComplete, hc]
    exact .inl h
  | some c =>
    rw [qualificationComplete_of_candidate hc]
    split
    · exact settle_countsOrEnds (by simpa [Hcu.follow] using h)
    · exact .inl h

theorem referenceEdge_countsOrEnds (src : ClockSource) (s : State) : CountsOrEnds s (referenceEdge src s) := by
  unfold referenceEdge
  split
  next w _ =>
    unfold followedEdge
    split
    · exact .inl rfl
    · dsimp only
      split
      · exact settle_countsOrEnds rfl
      · exact referenceLoss_countsOrEnds true s
  next =>
    split
    next w _ =>
      unfold candidateEdge
      split
      · exact .inl rfl
      · dsimp only
        split
        · exact qualificationComplete_countsOrEnds rfl
        · exact .inl rfl
    next => exact .inl rfl

/-- Where an edge makes a house sample event, the tick counter after it stands at phase 0 (R2, R16). -/
theorem referenceEdge_tickCounter {src : ClockSource} {s : State}
    (h : (referenceEdge src s).hcu.count ≠ s.hcu.count) :
    (referenceEdge src s).hcu.tickCounter = 256#32 * (referenceEdge src s).hcu.count := by
  rcases referenceEdge_countsOrEnds src s with same | ⟨u, hu⟩
  · exact absurd same h
  · rw [hu, houseSample_tickCounter]

/-! ## The arrival (R3, R16, R18) -/

theorem Hcu.watches_iff {h : Hcu} {src : ClockSource} : h.watches src = true ↔
    h.regime = .following ∧ h.active = src ∧ h.activeWatch ≠ none ∨
      h.candidate = some src ∧ h.candidateWatch ≠ none := by
  rw [Hcu.watches, Bool.or_eq_true, Option.isSome_iff_exists, Option.isSome_iff_exists]
  simp only [Hcu.followedWatch_eq_some, Hcu.qualifyingWatch_eq_some, exists_and_left, Option.ne_none_iff_exists']

theorem PortState.handles_eq_false {st : PortState} : st.handles = false ↔ st = .off ∨ st = .barred := by
  cases st <;> simp [PortState.handles]

/-- In OFF or BARRED an arrival is discarded (R18). -/
theorem arrive_discarded {k : Fin 6} {s : State} (h : s.ports[k].state.handles = false) (body : List Byte) :
    arrive k body s = s := by
  simp only [arrive, h]
  rfl

/-- At a watched port the arrival and its reference edge act in one of the two orders (R3, R18, R48). -/
theorem arrive_watched {k : Fin 6} {s : State} (h : s.ports[k].state.handles = true)
    (hw : s.hcu.watches (.port k) = true) (body : List Byte) :
    let drawn := { s with draws := s.draws + 1 }
    let edged := referenceEdge (.port k) drawn
    let capture := if edged.hcu.count = s.hcu.count then s.hcu.tickCounter else edged.hcu.tickCounter
    arrive k body s = portArrival k edged.hcu.tickCounter body edged ∨
      arrive k body s = referenceEdge (.port k) (portArrival k capture body drawn) := by
  simp only [arrive, h, hw, Bool.not_true, Bool.false_eq_true, if_false]
  split
  · exact .inl rfl
  · exact .inr rfl

theorem State.withReceiver_state (k : Fin 6) (r : Receiver) (s : State) :
    (s.withReceiver k r).ports[k].state = s.ports[k].state := by
  rw [State.withReceiver_ports, getElem_set_self]

/-- What the arrival of a whole frame does, by the port's state and the watch on it. -/
theorem arrive_cases (k : Fin 6) (s : State) (body : List Byte) :
    let heard := s.withReceiver k (.search none)
    let arrived : Answer := .next (arrive k body heard)
    (s.ports[k].state = .off ∨ s.ports[k].state = .barred → arrived = .next heard) ∧
    (s.ports[k].state ≠ .off → s.ports[k].state ≠ .barred →
      (s.hcu.watches (.port k) = false → arrived = .next (portArrival k s.hcu.tickCounter body heard)) ∧
      (s.hcu.watches (.port k) = true →
        let drawn := { heard with draws := s.draws + 1 }
        let edged := referenceEdge (.port k) drawn
        let capture := if edged.hcu.count = s.hcu.count then s.hcu.tickCounter else edged.hcu.tickCounter
        (arrived = .next (portArrival k edged.hcu.tickCounter body edged) ∨
          arrived = .next (referenceEdge (.port k) (portArrival k capture body drawn))) ∧
        (edged.hcu.count ≠ s.hcu.count → edged.hcu.tickCounter = 256#32 * edged.hcu.count))) := by
  have state := s.withReceiver_state k (.search none)
  refine ⟨fun hd => ?_, fun hoff hbarred => ⟨fun hw => ?_, fun hw => ⟨?_, referenceEdge_tickCounter⟩⟩⟩
  · rw [arrive_discarded (by rwa [state, PortState.handles_eq_false])]
  · rw [arrive_unwatched (by exact hw)]
    rfl
  · have handles : (s.withReceiver k (.search none)).ports[k].state.handles = true := by
      rw [state, ← Bool.not_eq_false, PortState.handles_eq_false]
      tauto
    exact (arrive_watched handles hw body).imp (congrArg _) (congrArg _)

/-- Settles O19: the bytes one by one, and the frame that the 26th of the body completes. -/
theorem frameReceived : Obligations.FrameReceived := by
  intro k s
  refine ⟨Hcu.watches_iff, fun bytes more => ⟨_, rfl, ?_⟩, rfl, fun inHand h => ⟨fun b => ?_, ?_, fun body hb => ?_⟩,
    fun body h b => ⟨fun short => ?_, fun full => ?_⟩⟩
  · exact congrArg Host.Outcome.next (List.foldl_append ..)
  · exact congrArg Host.Outcome.next (ingressByte_of_search h b)
  · exact congrArg Host.Outcome.next (ingressBytes_sync h)
  · have frame : exec (.frameArrival k (0xB3#8 :: 0x5C#8 :: body)) s =
        .next (arrive k body (s.withReceiver k (.search none))) := congrArg Host.Outcome.next (ingressBytes_frame h hb)
    rw [frame]
    exact arrive_cases k s body
  · exact congrArg Host.Outcome.next ((ingressByte_of_collect h b).trans (if_pos short))
  · have frame : exec (.frameArrival k [b]) s = .next (arrive k (body ++ [b]) (s.withReceiver k (.search none))) :=
      congrArg Host.Outcome.next ((ingressByte_of_collect h b).trans (if_neg (by omega)))
    rw [frame]
    exact arrive_cases k s (body ++ [b])

end Sys2Proof.Machine
end

section
/-! SUPPORT. A frame arrival at a port, a full window, a frame timeout and a seeding entry: the whole next state of
each. -/

namespace Sys2Proof.Machine

/-! ## A full window (R37 to R47) -/

theorem clamp_eq {lo hi : Int} (h : lo ≤ hi) (x : Int) : clamp lo hi x = max lo (min hi x) := by
  unfold clamp
  split
  · omega
  split <;> omega

theorem clampStep_eq (s0 : Nat) (x : Int) : clampStep s0 x =
    (max ((s0 - s0 / 512 : Nat) : Int) (min ((s0 + s0 / 512 : Nat) : Int) x)).toNat := by
  rw [clampStep, clamp_eq (by omega)]

theorem Port.fillError_eq (p : Port) :
    p.fillError = max (-16) (min 16 ((p.written - p.resampler.int).toInt - p.latency)) := by
  rw [Port.fillError, clamp_eq (by decide), Port.fill]

theorem rateFault_iff {s0 sMeas : Nat} : rateFault s0 sMeas = true ↔ s0 / 256 < ((sMeas : Int) - s0).natAbs := by
  simp [rateFault]

theorem Port.seed_eq {p : Port} (h : p.resampler.slipPending = false) (s0 sMeas : Nat) (capture : Word32) :
    p.seed s0 sMeas capture = { p with
      state := .locked, fader := p.fader.giveOpen,
      tracker := ⟨.timing capture 0, sMeas, sMeas, clampStep s0 sMeas⟩,
      resampler := { p.resampler with int := p.written - BitVec.ofNat 32 p.latency, frac := 0 } } := by
  simp only [Port.seed, Port.recentre, h, Bool.false_eq_true, if_false]

/-- Settles O22: the arithmetic, the windows that do not complete, and the three outcomes of one that does. -/
theorem windowCompletes : Obligations.WindowCompletes := by
  refine ⟨⟨fun _ _ => by norm_num [nominalStep], rfl, rfl, by decide, by decide⟩,
    fun k s => ⟨rfl, fun h => ?_⟩, ?_⟩
  · refine congrArg Host.Outcome.next (windowComplete_of_not_full fun start hw => ?_)
    rw [← Bool.not_eq_true, PortState.writes_iff]
    rcases h with h | h | h
    · cases hw.symm.trans h
    · cases hw.symm.trans h
    · tauto
  · intro k start capture count s p hw hc hs elapsed measured s0 clamped filtered error
    have hm : measuredStep p.windowExp elapsed = measured := rfl
    have h0 : nominalStep s.hcu.rate p.rateCode = s0 := rfl
    have writes : p.state.writes = true := PortState.writes_iff.mpr hs
    clear_value measured s0
    by_cases full : count = 2 ^ p.windowExp
    swap
    · rw [if_pos full]
      refine congrArg Host.Outcome.next (windowComplete_of_not_full fun start' hw' => ?_)
      cases hw.symm.trans hw'
      exact absurd rfl full
    rw [if_neg (not_not.mpr full)]
    have completes := windowComplete_of_full (full ▸ hw) writes hc hm h0
    by_cases fault : s0 / 256 < ((measured : Int) - s0).natAbs
    · rw [if_pos fault]
      rw [if_pos (rateFault_iff.mpr fault)] at completes
      exact congrArg Host.Outcome.next completes
    rw [if_neg fault]
    rw [if_neg (mt rateFault_iff.mp fault)] at completes
    by_cases seeding : p.state = .seeding
    · rw [if_pos seeding]
      rw [if_pos seeding] at completes
      intro settled
      rw [Port.seed_eq settled, clampStep_eq] at completes
      exact congrArg Host.Outcome.next completes
    · rw [if_neg seeding]
      rw [if_neg seeding, Port.track, clampStep_eq, Port.fillError_eq] at completes
      exact congrArg Host.Outcome.next completes

/-! ## Frame timeouts and seeding entry (R23, R26) -/

theorem frameTimeout_of_due {k : Fin 6} {s : State} (h : timeoutDue k s = true) : frameTimeout k s = loss k s := by
  rw [frameTimeout, if_pos h]

theorem frameTimeout_of_not_due {k : Fin 6} {s : State} (h : ¬timeoutDue k s = true) : frameTimeout k s = s := by
  rw [frameTimeout, if_neg h]

/-- A loss takes port `k` alone out of SEEDING and LOCKED, so that its timeout is no longer due (R26). -/
theorem timedOut_loss (ticks : Word32) (k j : Fin 6) (s : State) :
    timedOut ticks j (loss k s) = (timedOut ticks j s && j != k) := by
  by_cases hj : j = k
  · subst hj
    have left : (loss j s).ports[j].state = .hunt := by
      rw [loss, State.raise_port, State.withPort_self, Port.enter_state]
    rw [bne_self_eq_false, Bool.and_false, timedOut, left]
    rfl
  · rw [bne_iff_ne.mpr hj, Bool.and_true, timedOut, timedOut, (loss_touches k s).ports j hj, loss_hcu]

theorem boundaryTimeouts_loss (k : Fin 6) (s : State) :
    boundaryTimeouts (loss k s) = (boundaryTimeouts s).erase k := by
  have nodup : (boundaryTimeouts s).Nodup := (List.nodup_finRange 6).filter _
  rw [nodup.erase_eq_filter, boundaryTimeouts, boundaryTimeouts, List.filter_filter, loss_hcu]
  simp only [timedOut_loss, Bool.and_comm]

/-- The timeouts taken before a house sample event: where one falls due, the event comes next, or one of them is taken
and the choice is made again (R64, R75). -/
theorem timeoutsFirst_cases (s : State) :
    (boundaryTimeouts s = [] ∧ timeoutsFirst s = s) ∨
    (boundaryTimeouts s ≠ [] ∧ timeoutsFirst s = { s with draws := s.draws + 1 }) ∨
    ∃ k ∈ boundaryTimeouts s, timeoutsFirst s = timeoutsFirst (loss k { s with draws := s.draws + 1 }) := by
  cases hn : (boundaryTimeouts s).length with
  | zero =>
    have none := List.length_eq_zero_iff.mp hn
    exact .inl ⟨none, by rw [timeoutsFirst, none]; rfl⟩
  | succ n =>
    have turn := lossesFirst_succ n s
    rw [← hn] at turn
    refine turn.imp id (Or.imp id ?_)
    rintro ⟨k, hk, taken⟩
    refine ⟨k, hk, taken.trans ?_⟩
    have fewer : (boundaryTimeouts (loss k { s with draws := s.draws + 1 })).length = n := by
      rw [boundaryTimeouts_loss]
      exact (List.length_erase_of_mem hk).trans (by rw [hn]; rfl)
    rw [timeoutsFirst, fewer]

/-- Settles O21: the timeout by `timeoutDue_iff`, those before a house sample by `timeoutsFirst_cases`, and the seeding
entry by its count. -/
theorem timeoutAndSeeding : Obligations.TimeoutAndSeeding := by
  refine ⟨fun k s => ?_, fun s => ?_, fun k capture s hc => ⟨fun hunt full => ?_, fun hn => ?_⟩⟩
  · refine ⟨fun hs hd => ?_, fun h1 h2 => ?_, fun hd => ?_⟩
    · obtain ⟨c, hc, ht⟩ := hd
      exact congrArg Host.Outcome.next (frameTimeout_of_due (timeoutDue_iff.mpr ⟨c, hs, hc, ht⟩))
    · refine congrArg Host.Outcome.next (frameTimeout_of_not_due fun due => ?_)
      rcases PortState.writes_iff.mp (timeoutDue_writes due) with h | h
      · exact h1 h
      · exact h2 h
    · refine congrArg Host.Outcome.next (frameTimeout_of_not_due fun due => hd ?_)
      obtain ⟨c, -, due⟩ := timeoutDue_iff.mp due
      exact ⟨c, due⟩
  · intro falls drawn t
    have falls_iff (k : Fin 6) : falls k ↔ k ∈ boundaryTimeouts s := timedOut_iff.symm.trans mem_boundaryTimeouts.symm
    refine ⟨timeoutsFirst_eq s, fun none => ?_, fun ⟨k, hk⟩ => ?_⟩
    · have empty : boundaryTimeouts s = [] :=
        List.eq_nil_iff_forall_not_mem.mpr fun k hk => none k ((falls_iff k).mpr hk)
      rcases timeoutsFirst_cases s with ⟨-, h⟩ | ⟨some, -⟩ | ⟨k, hk, -⟩
      · exact h
      · exact absurd empty some
      · exact absurd ((falls_iff k).mpr hk) (none k)
    · rcases timeoutsFirst_cases s with ⟨empty, -⟩ | ⟨-, h⟩ | ⟨j, hj, h⟩
      · rw [falls_iff, empty] at hk
        cases hk
      · exact .inl h
      · exact .inr ⟨j, (falls_iff j).mpr hj, h⟩
  · have enters := seedingEntry_of_sixteen hunt full hc
    have rank : (s.ports[k].seedFrom capture).rank = s.ports[k].rank :=
      Port.rank_eq_of_not_locked nofun (by rw [hunt]; nofun)
    rw [State.withPort_of_rank_eq rank] at enters
    exact congrArg Host.Outcome.next enters
  · exact congrArg Host.Outcome.next (seedingEntry_of_not (by tauto))

/-! ## A frame arrival (R17 to R25) -/

/-- A list of 26 bytes ends in its byte 25. -/
theorem drop_eq_singleton_iff {body : List Byte} (h : body.length = 26) (v : Byte) :
    body.drop 25 = [v] ↔ body[25]? = some v := by
  have last : 25 < body.length := by omega
  rw [List.drop_eq_getElem_cons last, List.drop_eq_nil_of_le (by omega), List.getElem?_eq_getElem last]
  simp

/-- How a body of 26 bytes is classed: by its check, then by its tag (R17). -/
theorem classify_eq {p : Port} {body : List Byte} (h : body.length = 26) : p.classify body =
    if body[25]? ≠ some (crc8 (body.take 25)) then .badCheck
    else if body.headD 0 &&& p.acceptMask ≠ p.acceptTag &&& p.acceptMask then .foreign else .good := by
  simp only [Port.classify, ne_eq, drop_eq_singleton_iff h]

theorem classify_badCheck_iff {p : Port} {body : List Byte} (h : body.length = 26) :
    p.classify body = .badCheck ↔ body[25]? ≠ some (crc8 (body.take 25)) := by
  rw [classify_eq h]
  split
  next bad => exact iff_of_true rfl bad
  next checked => split <;> exact iff_of_false nofun checked

theorem classify_foreign_iff {p : Port} {body : List Byte} (h : body.length = 26) :
    p.classify body = .foreign ↔ body[25]? = some (crc8 (body.take 25)) ∧
      body.headD 0 &&& p.acceptMask ≠ p.acceptTag &&& p.acceptMask := by
  rw [classify_eq h]
  split
  next bad => exact iff_of_false nofun fun h => bad h.1
  next checked =>
    have checked := not_not.mp checked
    split
    next other => exact iff_of_true rfl ⟨checked, other⟩
    next tagged => exact iff_of_false nofun fun h => tagged h.2

/-- Sample `t` of a list of bytes is that of its bytes 3t to 3t + 2. -/
theorem samplesOf_getD (t : Nat) (bytes : List Byte) (h : 3 * t + 2 < bytes.length) : (samplesOf bytes).getD t 0 =
    sampleOf (bytes.getD (3 * t) 0) (bytes.getD (3 * t + 1) 0) (bytes.getD (3 * t + 2) 0) := by
  induction t generalizing bytes with
  | zero =>
    match bytes, h with
    | hi :: mid :: lo :: rest, _ => rfl
  | succ t ih =>
    match bytes, h with
    | hi :: mid :: lo :: rest, h => exact ih rest (by simp at h; omega)

/-- Slot `t` of a body is the two's complement number of its three bytes (section 13.1). -/
theorem bodySamples_getElem {body : List Byte} (h : body.length = 26) (t : Fin 8) : (bodySamples body)[t] =
    (body.getD (1 + 3 * t.val) 0 ++ body.getD (2 + 3 * t.val) 0 ++ body.getD (3 + 3 * t.val) 0 : BitVec 24).toInt := by
  have byteAt {i j : Nat} (hi : i < 24) (hj : j = 1 + i) : ((body.drop 1).take 24).getD i 0 = body.getD j 0 := by
    rw [List.getD_eq_getElem?_getD, List.getElem?_take_of_lt hi, List.getElem?_drop, List.getD_eq_getElem?_getD, hj]
  have slot : (bodySamples body)[t] = (samplesOf ((body.drop 1).take 24)).getD t.val 0 := by
    simp [bodySamples]
  have ht := t.isLt
  rw [slot, samplesOf_getD _ _ (by rw [List.length_take, List.length_drop, h]; omega),
    byteAt (j := 1 + 3 * t.val) (by omega) (by omega),
    byteAt (j := 2 + 3 * t.val) (by omega) (by omega), byteAt (j := 3 + 3 * t.val) (by omega) (by omega), sampleOf]

/-- The arrival that a port in SEEDING or LOCKED writes and hands to its tracker, after the score update, in terms of
the port as the arrival found it (R24, R25, R39). -/
theorem Port.scored_handed (c : FrameClass) (samples : Frame) (capture : Word32) (p : Port) :
    let q := ({ p with lastCapture := some capture }.scoreFrame c).judgeDegraded
    let frame := if c = .good then samples else p.lastFrame
    { q.writeArrival c samples with tracker := (q.writeArrival c samples).tracker.hand capture } = { q with
      rings := Vector.ofFn fun t => p.rings[t].set (p.written.toNat % 64) frame[t] (Nat.mod_lt _ (by decide)),
      written := p.written + 1, lastFrame := frame,
      conceals := if c = .good then p.conceals else min (p.conceals + 1) 4294967295,
      tracker := { p.tracker with window :=
        match p.tracker.window with
        | .idle => .idle
        | .waiting => .timing capture 0
        | .timing start count => .timing start (count + 1) } } := by
  dsimp only
  rw [Port.writeArrival_eq, Tracker.hand_eq, Port.scored_eq]
  rfl

/-- The state after the score update of an arrival, with Port Warn raised at a crossing of 96 (R20). -/
theorem raiseIf_warns (p q : Port) (c : Cond) (items : BitVec 64) (s : State) :
    s.raiseIf (warns p q) c items = if p.score < 96 ∧ 96 ≤ q.score then s.raise c items else s := by
  simp only [State.raiseIf, warns_iff]

/-- Settles O20: the classing and the score update, then the four outcomes of an arrival. -/
theorem arrivalHandled : Obligations.ArrivalHandled := by
  refine ⟨fun p body hb => ?_, fun k capture body s => ?_⟩
  · intro c q
    exact ⟨classify_badCheck_iff hb, classify_foreign_iff hb, Port.scored_score c p, Port.scored_badChecks c p,
      Port.scored_foreigns c p, Port.scored_degraded c p, warns_iff, bodySamples_getElem hb, Port.scored_eq c p⟩
  · intro p c q scored samples hs
    have warned : (s.withPort k q).raiseIf (warns p q) .portWarn (portBit k) = scored := raiseIf_warns ..
    have handled := portArrival_of_handles (capture := capture) (c := c) (q := q) (PortState.handles_iff.mpr hs) rfl rfl
      warned
    have port : scored.ports[k] = q := by
      rw [← warned]
      exact (State.raiseIf_port _ _ _ k _).trans (State.withPort_self k q s)
    have written := Port.scored_handed c samples capture p
    have state : q.state = p.state := Port.scored_state ..
    have captured : q.lastCapture = some capture := Port.scored_lastCapture ..
    have run : q.goodRun = p.goodRun := Port.scored_goodRun ..
    refine handled.trans (if_congr Iff.rfl rfl ?_)
    by_cases hunt : p.state = .hunt
    · have hunted : q.hunt c = { q with goodRun := if c = .good then p.goodRun + 1 else 0 } := by rw [Port.hunt, run]
      rw [if_pos hunt, arrivalAfterScore_of_hunt (by rw [port, state, hunt]) (by rw [port, captured]), port, run,
        hunted]
      rfl
    · rw [if_neg hunt, arrivalAfterScore_of_not_hunt (by rwa [port, state]), port]
      exact congrArg (fun r => windowComplete k (scored.withPort k r)) written

end Sys2Proof.Machine
end

section
/-! SUPPORT. The requests of an ingress port, each for a part that is ready to answer. -/

namespace Sys2Proof.Machine

/-! ## The fields of the port requests (R177) -/

theorem index_eq_some {n : Nat} {b : Byte} {i : Fin n} (h : index n b = some i) : b.toNat < n := by
  unfold index at h
  split at h
  next lt => exact lt
  next => cases h

theorem flagOf_eq (b : Byte) : flagOf b = if 1 < b.toNat then none else some (b == 1) := by
  unfold flagOf
  split
  next h => rw [h]; rfl
  split
  next h => rw [h]; rfl
  next h0 h1 => rw [if_pos (by bv_omega)]

theorem ingressRateOf_eq (b : Byte) :
    ingressRateOf b = [IngressRate.r44100, .r48000, .r88200, .r96000][b.toNat]? := by
  unfold ingressRateOf
  repeat' split
  case isFalse =>
    rw [List.getElem?_eq_none]
    simp only [List.length_cons, List.length_nil]
    bv_omega
  all_goals simp_all

theorem within_of_mem {lo hi : Nat} {b : Byte} (h : lo ≤ b.toNat ∧ b.toNat ≤ hi) : within lo hi b = some b.toNat := by
  rw [within, if_pos h]

theorem within_of_not_mem {lo hi : Nat} {b : Byte} (h : ¬(lo ≤ b.toNat ∧ b.toNat ≤ hi)) : within lo hi b = none := by
  rw [within, if_neg h]

/-! ## Port Setup (R32) -/

/-- A Port Setup in CONFIG whose fields are in range. -/
theorem takePortSetup_of_fields {port enable rate latency window : Byte} {s : State} {k : Fin 6} {e : Bool}
    {r : IngressRate} {l w : Nat} (hop : s.op = .config) (hk : index 6 port = some k) (he : flagOf enable = some e)
    (hr : ingressRateOf rate = some r) (hl : within 8 48 latency = some l) (hw : within 6 12 window = some w) :
    takePortSetup port enable rate latency window s =
      (s.withPort k ((s.ports[k].setup e r l w).resync s.ports[k].state), .done) := by
  simp only [takePortSetup, hop, hk, he, hr, hl, hw, ne_eq, not_true_eq_false, if_false]

/-- A Port Setup in CONFIG with a field out of range. -/
theorem takePortSetup_of_range {port enable rate latency window : Byte} {s : State} (hop : s.op = .config)
    (h : 5 < port.toNat ∨ 1 < enable.toNat ∨ 3 < rate.toNat ∨ latency.toNat < 8 ∨ 48 < latency.toNat ∨
      window.toNat < 6 ∨ 12 < window.toNat) :
    takePortSetup port enable rate latency window s = (s, .refuse .range) := by
  simp only [takePortSetup, hop, ne_eq, not_true_eq_false, if_false]
  split
  next k e r l w hk he hr hl hw =>
    have hport := index_eq_some hk
    have henable : enable.toNat ≤ 1 := by
      by_contra hn
      rw [flagOf_eq, if_pos (by omega)] at he
      cases he
    have hrate : rate.toNat < 4 := by
      rw [ingressRateOf_eq] at hr
      exact (List.getElem?_eq_some_iff.mp hr).1
    have hlatency : 8 ≤ latency.toNat ∧ latency.toNat ≤ 48 := by
      by_contra hn
      rw [within_of_not_mem hn] at hl
      cases hl
    have hwindow : 6 ≤ window.toNat ∧ window.toNat ≤ 12 := by
      by_contra hn
      rw [within_of_not_mem hn] at hw
      cases hw
    omega
  next => rfl

/-- Settles O24: R32's checks in order, then its cases and the receiver rule. -/
theorem portSetup : Obligations.PortSetup := by
  intro dest port enable rate latency window s h
  have answers {t : State} {r : Reply} (ht : takePortSetup port enable rate latency window s = (t, r)) :
      exec (.portSetup dest port enable rate latency window) s =
        .next (t.replying 0x20 r.status r.content) :=
    exec_answers (.portSetup port enable rate latency window) h rfl (by simp) ht
  simp only [firstRefusal_cons, firstRefusal_nil]
  by_cases hop : s.op = .config
  swap
  · simp only [hop, ne_eq, not_false_eq_true, decide_true, if_true]
    have refused : takePortSetup port enable rate latency window s = (s, .refuse .locked) := by
      rw [takePortSetup, if_pos hop]
    exact (answers refused :)
  simp only [hop, ne_eq, not_true_eq_false, decide_false, Bool.false_eq_true, if_false, decide_eq_true_eq]
  by_cases hrange : 5 < port.toNat ∨ 1 < enable.toNat ∨ 3 < rate.toNat ∨ latency.toNat < 8 ∨ 48 < latency.toNat ∨
      window.toNat < 6 ∨ 12 < window.toNat
  · rw [if_pos hrange]
    exact (answers (takePortSetup_of_range hop hrange) :)
  rw [if_neg hrange]
  intro k r hk hr
  have flag : flagOf enable = some (enable == 1) := by rw [flagOf_eq, if_neg (by omega)]
  have off : (enable == 1) = false ↔ enable = 0 := by
    rw [beq_eq_false_iff_ne]
    constructor <;> intro <;> bv_omega
  have taken := takePortSetup_of_fields hop (index_of_eq hk) flag (by rw [ingressRateOf_eq, hr])
    (within_of_mem (b := latency) (by omega)) (within_of_mem (b := window) (by omega))
  rw [Port.setup_eq, if_congr off rfl rfl] at taken
  exact (answers taken :)

/-! ## Port Accept and Port Revive (R33, R35) -/

/-- Settles O25: the index out of range, then each request; neither changes the port's rank, so no lane evaluates. -/
theorem portAcceptAndRevive : Obligations.PortAcceptAndRevive := by
  intro dest port tag mask s h
  have accept {t r} (ht : takePortAccept port tag mask s = (t, r)) := exec_answers (c := .portAccept dest port tag mask)
    (.portAccept port tag mask) h rfl (by simp) ht
  have revive {t r} (ht : takePortRevive port s = (t, r)) := exec_answers (c := .portRevive dest port)
    (.portRevive port) h rfl (by simp) ht
  refine ⟨fun hp => ⟨?_, ?_⟩, fun k hk => ⟨?_, fun hb => ?_, fun hb => ?_⟩⟩
  · exact (accept (by simp only [takePortAccept, index_of_le hp] : _ = (s, .refuse .range)) :)
  · exact (revive (by simp only [takePortRevive, index_of_le hp] : _ = (s, .refuse .range)) :)
  · have taken : takePortAccept port tag mask s =
        (s.withPort k { s.ports[k] with acceptTag := tag, acceptMask := mask }, .done) := by
      simp only [takePortAccept, index_of_eq hk]
    have rank : Port.rank { s.ports[k] with acceptTag := tag, acceptMask := mask } = s.ports[k].rank := rfl
    rw [State.withPort_of_rank_eq rank] at taken
    exact (accept taken :)
  · have taken : takePortRevive port s = (s, .refuse .wrongstate) := by
      simp only [takePortRevive, index_of_eq hk, hb, if_false]
    exact (revive taken :)
  · have taken : takePortRevive port s =
        (s.withPort k (Port.enter .hunt { s.ports[k] with score := 0, degraded := false }), .done) := by
      simp only [takePortRevive, index_of_eq hk, hb, if_true]
    have rank : (Port.enter .hunt { s.ports[k] with score := 0, degraded := false }).rank = s.ports[k].rank :=
      Port.rank_eq_of_not_locked (by rw [Port.enter_state]; nofun) (by rw [hb]; nofun)
    rw [State.withPort_of_rank_eq rank] at taken
    exact (revive taken :)

/-! ## Port Query (R34, R67) -/

theorem length_beBytes (n v : Nat) : (beBytes n v).length = n := by
  induction n with
  | zero => rfl
  | succ n ih => rw [beBytes, List.length_cons, ih]

/-- The fill that Port Query reports, saturated to signed 16 bits (R34, R177). -/
theorem Port.reportedFill_eq (p : Port) : p.reportedFill =
    if (p.state == .locked) = true then max (-32768) (min 32767 (p.written - p.resampler.int).toInt) else 0 := by
  rw [Port.reportedFill, clamp_eq (by decide), Port.fill]
  simp only [beq_iff_eq]

/-- Settles O26: the codes, the record's length, and the record group by group. -/
theorem portQueryAnswers : Obligations.PortQueryAnswers := by
  refine ⟨⟨rfl, rfl, rfl⟩, fun dest port s h => ?_⟩
  have query {t r} (ht : takePortQuery port s = (t, r)) := exec_answers (c := .portQuery dest port) (.portQuery port) h
    rfl (by simp) ht
  refine ⟨fun hp => ?_, fun k hk => ?_⟩
  · exact (query (by simp only [takePortQuery, index_of_le hp] : _ = (s, .refuse .range)) :)
  · intro p r locked fill content
    have taken : takePortQuery port s = (s, .done (portRecord p)) := by
      simp only [takePortQuery, index_of_eq hk]
      rfl
    have record : portRecord p = content := by
      unfold portRecord
      simp only [Port.reportedFill_eq, content, List.append_assoc]
      rfl
    refine ⟨?_, ?_⟩
    · simp only [content, List.length_append, List.length_cons, List.length_nil, length_beBytes]
    · rw [← record]
      exact (query taken :)

end Sys2Proof.Machine
end

section
/-! SUPPORT. The check byte of an audio frame, and an egress frame as an ingress port reads it. -/

namespace Sys2Proof.Machine

/-! ## The check (R17) -/

theorem crc8Bits_eq (n : Nat) (r : BitVec 8) : crc8Bits n r = crc8Bit^[n] r := by
  induction n generalizing r with
  | zero => rfl
  | succ n ih => exact ih _

theorem crc8_append (bytes : List Byte) (b : Byte) : crc8 (bytes ++ [b]) = crc8Bit^[8] (crc8 bytes ^^^ b) := by
  rw [crc8, List.foldl_append, List.foldl_cons, List.foldl_nil, crc8Bits_eq]
  rfl

/-! ## The samples of a frame (section 13.1) -/

theorem toNat_append_byte {w : Nat} (x : BitVec w) (b : Byte) : (x ++ b).toNat = x.toNat * 256 + b.toNat := by
  rw [BitVec.toNat_append, ← Nat.shiftLeft_add_eq_or_of_lt b.isLt, Nat.shiftLeft_eq]

/-- A sample in range comes back from its three bytes (section 6.2). -/
theorem sampleOf_sampleBytes {x : Sample} (h : InRange x) :
    ∃ hi mid lo, sampleBytes x = [hi, mid, lo] ∧ sampleOf hi mid lo = x := by
  obtain ⟨low, high⟩ := h
  refine ⟨_, _, _, rfl, ?_⟩
  have whole : (BitVec.ofNat 8 ((BitVec.ofInt 24 x).toNat / 256 ^ 2) ++
      BitVec.ofNat 8 ((BitVec.ofInt 24 x).toNat / 256 ^ 1) ++
      BitVec.ofNat 8 ((BitVec.ofInt 24 x).toNat / 256 ^ 0) : BitVec 24) = BitVec.ofInt 24 x := by
    apply BitVec.eq_of_toNat_eq
    have bound := (BitVec.ofInt 24 x).isLt
    rw [toNat_append_byte, toNat_append_byte]
    simp only [BitVec.toNat_ofNat]
    omega
  rw [sampleOf, whole]
  exact BitVec.toInt_ofInt_eq_self (by decide) low (Int.lt_add_one_of_le high)

theorem samplesOf_flatMap {xs : List Sample} (h : ∀ x ∈ xs, InRange x) : samplesOf (xs.flatMap sampleBytes) = xs := by
  induction xs with
  | nil => rfl
  | cons x xs ih =>
    obtain ⟨hi, mid, lo, bytes, value⟩ := sampleOf_sampleBytes (h x (by simp))
    rw [List.flatMap_cons, bytes]
    simp only [List.cons_append, List.nil_append, samplesOf, value, ih fun y hy => h y (by simp [hy])]

theorem length_flatMap_sampleBytes (x : Frame) : (x.toList.flatMap sampleBytes).length = 24 := by
  simp [List.length_flatMap, sampleBytes, beBytes, List.map_const']

/-! ## An egress frame at an ingress port (R17, R135) -/

/-- The eight samples come back from a body that carries them. -/
theorem bodySamples_of_samples {tag check : Byte} {x : Frame} (h : ∀ i : Fin 8, InRange x[i]) :
    bodySamples (tag :: x.toList.flatMap sampleBytes ++ [check]) = x := by
  have carried : ((tag :: x.toList.flatMap sampleBytes ++ [check]).drop 1).take 24 = x.toList.flatMap sampleBytes := by
    rw [List.cons_append, List.drop_one, List.tail_cons, List.take_left' (length_flatMap_sampleBytes x)]
  have inRange : ∀ v ∈ x.toList, InRange v := by
    intro v hv
    obtain ⟨i, hi, rfl⟩ := List.getElem_of_mem hv
    have := h ⟨i, by simpa using hi⟩
    simpa using this
  rw [bodySamples, carried, samplesOf_flatMap inRange]
  ext i hi
  simp

/-- A body whose check byte is the CRC-8 of the rest is good or foreign, by its tag alone (R17). -/
theorem classify_of_check {p : Port} {tag : Byte} {rest : List Byte} (h : (tag :: rest).length = 25) :
    p.classify (tag :: rest ++ [crc8 (tag :: rest)]) =
      if tag &&& p.acceptMask = p.acceptTag &&& p.acceptMask then .good else .foreign := by
  rw [Port.classify, List.drop_left' h, List.take_left' h]
  simp only [ne_eq, not_true_eq_false, if_false, ite_not]
  rfl

/-- Settles O48: the CRC-8 bit by bit, and the body of an egress frame as an ingress port reads it. -/
theorem egressFrameIsReceived : Obligations.EgressFrameIsReceived := by
  have checked {tag : Byte} {x : Frame} : (tag :: x.toList.flatMap sampleBytes).length = 25 :=
    congrArg (· + 1) (length_flatMap_sampleBytes x)
  refine ⟨⟨rfl, crc8_append⟩, fun tag x p h => ⟨?_, ?_, bodySamples_of_samples h, classify_of_check ?_⟩⟩
  · exact congrArg (0xB3#8 :: 0x5C#8 :: ·) (List.append_cons ..)
  · exact (List.length_append ..).trans (congrArg (· + 1) checked)
  · exact checked

end Sys2Proof.Machine
end

section
/-! SUPPORT. Every sample that the part holds lies in the sample range, kept by every operation of the part, and so by
every step. -/

namespace Sys2Proof.Machine

/-! ## Samples in range (R17, R62, R106) -/

theorem zero_inRange : InRange 0 := by decide

theorem saturate_eq (x : Int) : saturate x = max (-8388608) (min 8388607 x) := clamp_eq (by decide) x

theorem saturate_inRange (x : Int) : InRange (saturate x) := by
  rw [saturate_eq]
  exact ⟨le_max_left _ _, max_le (by decide) (min_le_left _ _)⟩

theorem sampleOf_inRange (hi mid lo : Byte) : InRange (sampleOf hi mid lo) :=
  ⟨BitVec.le_toInt _, Int.le_of_lt_add_one BitVec.toInt_lt⟩

theorem samplesOf_inRange (bytes : List Byte) : ∀ x ∈ samplesOf bytes, InRange x := by
  induction bytes using samplesOf.induct with
  | case1 hi mid lo rest ih =>
    rw [samplesOf, List.forall_mem_cons]
    exact ⟨sampleOf_inRange hi mid lo, ih⟩
  | case2 bytes short =>
    rw [samplesOf]
    · exact nofun
    · exact short

/-- Every sample of a frame lies in the sample range. -/
abbrev FrameInRange (x : Frame) : Prop := ∀ t : Fin 8, InRange x[t]

/-- Every sample of a port's rings lies in the sample range. -/
abbrev RingsInRange (rings : Vector (Vector Sample 64) 8) : Prop := ∀ (t : Fin 8) (i : Fin 64), InRange rings[t][i]

theorem zeroFrame_inRange : FrameInRange Frame.zero := by
  intro t
  simpa only [Frame.zero, Fin.getElem_fin, Vector.getElem_replicate] using zero_inRange

theorem zeroRings_inRange : RingsInRange zeroRings := by
  intro t i
  simpa only [zeroRings, Fin.getElem_fin, Vector.getElem_replicate] using zero_inRange

theorem frameInRange_ite {c : Prop} [Decidable c] {x y : Frame} (hx : FrameInRange x) (hy : FrameInRange y) :
    FrameInRange (if c then x else y) := by
  split
  · exact hx
  · exact hy

theorem bodySamples_inRange (body : List Byte) : FrameInRange (bodySamples body) := by
  intro t
  have slot : (bodySamples body)[t] = (samplesOf ((body.drop 1).take 24)).getD t.val 0 := by
    simp [bodySamples]
  rw [slot]
  by_cases h : t.val < (samplesOf ((body.drop 1).take 24)).length
  · rw [List.getD_eq_getElem _ _ h]
    exact samplesOf_inRange _ _ (List.getElem_mem h)
  · rw [List.getD_eq_default _ _ (Nat.le_of_not_lt h)]
    exact zero_inRange

/-! ## The samples of one port and of one line -/

/-- Every sample that a port holds lies in the sample range: rings, last frame and held outputs. -/
def Port.SampleLaw (p : Port) : Prop :=
  RingsInRange p.rings ∧ FrameInRange p.lastFrame ∧ FrameInRange p.resampler.held

/-- Every sample of a line's delay buffer lies in the sample range. -/
def Line.SampleLaw (l : Line) : Prop := ∀ x ∈ l.buffer, InRange x

theorem sampleLaw_iff {s : State} :
    SampleLaw s ↔ (∀ k : Fin 6, s.ports[k].SampleLaw) ∧ ∀ n : Fin 64, s.lines[n].SampleLaw := by
  refine and_congr_left' (forall_congr' fun k => ?_)
  simp only [Port.SampleLaw, RingsInRange, FrameInRange, forall_and]

/-! ## What keeps a port's samples in range -/

namespace Port.SampleLaw
variable {p : Port} (h : p.SampleLaw)
include h

theorem withHeld {held : Frame} (inRange : FrameInRange held) :
    Port.SampleLaw { p with resampler := { p.resampler with held := held } } := by
  obtain ⟨rings, lastFrame, -⟩ := h
  exact ⟨rings, lastFrame, inRange⟩

/-- A port that leaves clears its rings and its last frame, and holds its outputs or zeros (R25, R29, R65). -/
theorem enter (st : PortState) : (p.enter st).SampleLaw := by
  obtain ⟨-, -, held⟩ := h
  rw [Port.enter_eq]
  exact ⟨zeroRings_inRange, zeroFrame_inRange, frameInRange_ite zeroFrame_inRange held⟩

theorem setup (enable : Bool) (rate : IngressRate) (latency window : Nat) :
    (p.setup enable rate latency window).SampleLaw := by
  have configured : (p.configure enable rate latency window).SampleLaw := h
  rw [Port.setup_eq]
  dsimp only
  split
  · exact configured.enter .off
  split
  · exact configured
  split
  · exact configured.enter .hunt
  split
  · exact configured
  · exact configured.enter .hunt

theorem rateFaulted (sMeas : Nat) : (p.rateFaulted sMeas).SampleLaw := by
  have counted : Port.SampleLaw
      { p with tracker := { p.tracker with sMeas := sMeas }, rateFaults := countUp max16 p.rateFaults } := h
  exact counted.enter .hunt

/-- A frame timeout (R26). -/
theorem lost : (Port.enter .hunt { p with losses := countUp max16 p.losses }).SampleLaw := by
  have counted : Port.SampleLaw { p with losses := countUp max16 p.losses } := h
  exact counted.enter .hunt

theorem resync (before : PortState) : (p.resync before).SampleLaw := by
  unfold Port.resync
  split <;> exact h

theorem rateChanged : p.rateChanged.SampleLaw := by
  unfold Port.rateChanged
  split
  · exact h.enter .hunt
  · exact h

theorem clearCounters : p.clearCounters.SampleLaw := h

theorem notice : p.notice.SampleLaw := by
  unfold Port.notice
  split <;> exact h

/-- A port enters SEEDING with its rings and its last frame cleared (R23). -/
theorem cleared (st : PortState) (t : Tracker) : Port.SampleLaw { p with
    state := st, goodRun := 0, written := 0, rings := zeroRings, lastFrame := Frame.zero, tracker := t } := by
  obtain ⟨-, -, held⟩ := h
  exact ⟨zeroRings_inRange, zeroFrame_inRange, held⟩

theorem seed (s0 sMeas : Nat) (capture : Word32) : (p.seed s0 sMeas capture).SampleLaw := by
  simp only [Port.seed]
  split <;> exact h

/-- The score update touches no sample (R19). -/
theorem scored (c : FrameClass) (capture : Word32) :
    ({ p with lastCapture := some capture }.scoreFrame c).judgeDegraded.SampleLaw := by
  rw [Port.scored_eq]
  exact h

/-- An arrival writes its own samples, or the last frame again, into the rings (R24, R25). -/
theorem writeArrival (c : FrameClass) {samples : Frame} (inRange : FrameInRange samples) :
    (p.writeArrival c samples).SampleLaw := by
  obtain ⟨rings, lastFrame, held⟩ := h
  have frame : FrameInRange (if c = .good then samples else p.lastFrame) := frameInRange_ite inRange lastFrame
  rw [Port.writeArrival_eq]
  refine ⟨fun t i => ?_, frame, held⟩
  simp only [Fin.getElem_fin, Vector.getElem_ofFn, Vector.getElem_set]
  split
  · exact frame t
  · exact rings t i

/-! ### The house sample -/

theorem softSlip : p.softSlip.SampleLaw := h

theorem hardSlip : p.hardSlip.SampleLaw := by
  simp only [Port.hardSlip]
  split <;> exact h

theorem onShut : p.onShut.1.SampleLaw := by
  unfold Port.onShut
  split
  · split
    · exact h.softSlip
    · exact h
  · exact h.withHeld zeroFrame_inRange

theorem bands : p.bands.1.SampleLaw := by
  have pending : p.setSlipPending.SampleLaw := h
  simp only [Port.bands]
  split
  · exact h.hardSlip
  split
  · split
    · exact pending.onShut
    · exact pending
  · exact h

/-- The interpolated samples are saturated before they are held (R62). -/
theorem interpolateAll : p.interpolateAll.SampleLaw := by
  have saturated : FrameInRange (mapAll (Vector.ofFn p.interpolated) saturate) := fun t => by
    rw [Fin.getElem_fin, getElem_mapAll]
    exact saturate_inRange _
  exact (h.withHeld saturated :)

theorem resample : p.resample.1.SampleLaw := by
  unfold Port.resample
  split
  · have advanced : Port.SampleLaw { p with resampler := p.resampler.advance p.tracker.sApplied } := h
    exact advanced.bands.interpolateAll
  · exact h

theorem houseSample : p.houseSample.port.SampleLaw := by
  have stepped : Port.SampleLaw { p.resample.1 with fader := p.resample.1.fader.step } := h.resample
  simp only [Port.houseSample]
  split
  · exact stepped.onShut
  · exact stepped

end Port.SampleLaw

theorem Port.restart_sampleLaw (p : Port) : p.restart.SampleLaw :=
  ⟨zeroRings_inRange, zeroFrame_inRange, zeroFrame_inRange⟩

/-! ## What keeps a line's samples in range -/

theorem zeros_inRange (d : Nat) : ∀ x ∈ List.replicate d (0 : Sample), InRange x := by
  intro x hx
  rw [List.eq_of_mem_replicate hx]
  exact zero_inRange

theorem Line.SampleLaw.setup {l : Line} (h : l.SampleLaw) (trim delay : Nat) : (l.setup trim delay).SampleLaw := by
  unfold Line.setup
  split
  · exact h
  · exact zeros_inRange delay

theorem Line.restart_sampleLaw (l : Line) : l.restart.SampleLaw := zeros_inRange l.delay

theorem Line.SampleLaw.countClip {l : Line} (h : l.SampleLaw) (clipped : Bool) : (l.countClip clipped).SampleLaw := by
  unfold Line.countClip
  split <;> exact h

/-- The delay holds the sample that it takes, and gives out one that it held (R132). -/
theorem Line.SampleLaw.houseSample {l : Line} (h : l.SampleLaw) {t : Sample} (ht : InRange t) :
    (l.houseSample t).1.SampleLaw := by
  intro x hx
  simp only [Line.houseSample] at hx
  cases hb : l.buffer with
  | nil => simp [hb, delayStep] at hx
  | cons oldest rest =>
    rw [hb, delayStep, List.mem_append, List.mem_singleton] at hx
    rcases hx with held | rfl
    · exact h x (by rw [hb]; exact List.mem_cons_of_mem _ held)
    · exact ht

/-! ## The samples, through the operations of the part -/

section
variable {s t : State}

theorem SampleLaw.port (hs : SampleLaw s) (k : Fin 6) : s.ports[k].SampleLaw := (sampleLaw_iff.mp hs).1 k

theorem SampleLaw.line (hs : SampleLaw s) (n : Fin 64) : s.lines[n].SampleLaw := (sampleLaw_iff.mp hs).2 n

theorem SampleLaw.of_same (hs : SampleLaw s) (ports : t.ports = s.ports) (lines : t.lines = s.lines) :
    SampleLaw t := by
  rw [sampleLaw_iff, ports, lines]
  exact sampleLaw_iff.mp hs

theorem SampleLaw.of_setPort (hs : SampleLaw s) {k : Fin 6} {p : Port} (hp : p.SampleLaw)
    (ports : t.ports = s.ports.set k p) (lines : t.lines = s.lines) : SampleLaw t := by
  refine sampleLaw_iff.mpr ⟨fun j => ?_, fun n => ?_⟩
  · rw [ports]
    by_cases hj : j = k
    · rwa [hj, getElem_set_self]
    · rw [getElem_set_of_ne _ hj]
      exact hs.port j
  · rw [lines]
    exact hs.line n

theorem SampleLaw.withPort (hs : SampleLaw s) {k : Fin 6} {p : Port} (hp : p.SampleLaw) : SampleLaw (s.withPort k p) :=
  hs.of_setPort hp (State.withPort_ports s k p) (State.withPort_lines s k p)

theorem SampleLaw.of_mapPorts (hs : SampleLaw s) {f : Port → Port} (ports : t.ports = mapAll s.ports f)
    (lines : t.lines = s.lines) (hf : ∀ p : Port, p.SampleLaw → (f p).SampleLaw) : SampleLaw t := by
  refine sampleLaw_iff.mpr ⟨fun k => ?_, fun n => ?_⟩
  · rw [ports, Fin.getElem_fin, getElem_mapAll]
    exact hf _ (hs.port k)
  · rw [lines]
    exact hs.line n

theorem SampleLaw.of_mapLines (hs : SampleLaw s) {f : Line → Line} (ports : t.ports = s.ports)
    (lines : t.lines = mapAll s.lines f) (hf : ∀ l : Line, l.SampleLaw → (f l).SampleLaw) : SampleLaw t := by
  refine sampleLaw_iff.mpr ⟨fun k => ?_, fun n => ?_⟩
  · rw [ports]
    exact hs.port k
  · rw [lines, Fin.getElem_fin, getElem_mapAll]
    exact hf _ (hs.line n)

/-- A Restart, or a change of all ports and all lines at once. -/
theorem SampleLaw.of_mapBoth (hs : SampleLaw s) {f : Port → Port} {g : Line → Line}
    (ports : t.ports = mapAll s.ports f) (lines : t.lines = mapAll s.lines g)
    (hf : ∀ p : Port, p.SampleLaw → (f p).SampleLaw) (hg : ∀ l : Line, l.SampleLaw → (g l).SampleLaw) : SampleLaw t :=
  SampleLaw.of_mapLines (s := { s with ports := t.ports }) (hs.of_mapPorts ports rfl hf) rfl lines hg

theorem SampleLaw.raise (hs : SampleLaw s) (c : Cond) (items : BitVec 64) : SampleLaw (s.raise c items) := hs

theorem SampleLaw.raiseIf (hs : SampleLaw s) (on : Bool) (c : Cond) (items : BitVec 64) :
    SampleLaw (s.raiseIf on c items) :=
  hs.of_same (State.raiseIf_ports s on c items) (State.raiseIf_lines s on c items)

/-! ### The house sample -/

/-- The mix hands on saturated samples (R106). -/
theorem mixStage_inRange (outs : Vector Sample 48) (s : State) (n : Fin 64) : InRange (mixStage outs s).2[n] := by
  simp only [mixStage, Fin.getElem_fin, getElem_mapAll]
  exact saturate_inRange _

theorem mixStage_line {s : State} {n : Fin 64} (h : s.lines[n].SampleLaw) (outs : Vector Sample 48) :
    (mixStage outs s).1.lines[n].SampleLaw := by
  simp only [mixStage, State.raiseSet_lines, Fin.getElem_fin, Vector.getElem_ofFn]
  exact h.countClip _

theorem lineStage_line {s : State} {n : Fin 64} (h : s.lines[n].SampleLaw) {mix : Vector Sample 64}
    (inRange : InRange mix[n]) : (lineStage mix s).1.lines[n].SampleLaw := by
  simp only [lineStage, Fin.getElem_fin, getElem_mapAll, Vector.getElem_ofFn]
  exact h.houseSample inRange

theorem houseSample_sampleLaw (hs : SampleLaw s) : SampleLaw (houseSample s) := by
  refine sampleLaw_iff.mpr ⟨fun k => ?_, fun n => ?_⟩
  · rw [houseSample_ports, Fin.getElem_fin, getElem_mapAll]
    exact (hs.port k).houseSample
  · simp only [houseSample, signalPath, egressStage_lines, runTest_lines]
    refine lineStage_line ?_ (mixStage_inRange _ _ n)
    rw [completionStage_lines]
    refine mixStage_line ?_ _
    rw [cueStage_lines, lanesStage_lines, portsStage_lines]
    exact hs.line n

/-! ### The events -/

theorem seedingEntry_sampleLaw (hs : SampleLaw s) (k : Fin 6) : SampleLaw (seedingEntry k s) := by
  simp only [seedingEntry]
  split
  · exact hs.withPort ((hs.port k).cleared _ _)
  · exact hs

theorem windowComplete_sampleLaw (hs : SampleLaw s) (k : Fin 6) : SampleLaw (windowComplete k s) := by
  have held := hs.port k
  simp only [windowComplete]
  split
  · split
    · split
      · exact (hs.withPort (held.rateFaulted _)).raise _ _
      split
      · exact hs.withPort (held.seed _ _ _)
      · exact hs.withPort (by exact held)
    · exact hs
  · exact hs

theorem arrivalAfterScore_sampleLaw (hs : SampleLaw s) (k : Fin 6) (capture : Word32) (c : FrameClass)
    {samples : Frame} (inRange : FrameInRange samples) : SampleLaw (arrivalAfterScore k capture c samples s) := by
  have held := hs.port k
  simp only [arrivalAfterScore]
  split
  · exact seedingEntry_sampleLaw (hs.withPort (by exact held)) k
  · exact windowComplete_sampleLaw (hs.withPort (by exact held.writeArrival c inRange)) k

theorem portArrival_sampleLaw (hs : SampleLaw s) (k : Fin 6) (capture : Word32) (body : List Byte) :
    SampleLaw (portArrival k capture body s) := by
  cases handled : s.ports[k].state.handles with
  | false => simpa only [portArrival, handled, Bool.false_eq_true, if_false] using hs
  | true =>
    have scored := (hs.port k).scored (s.ports[k].classify body) capture
    have warned (on : Bool) := (hs.withPort (k := k) scored).raiseIf on .portWarn (portBit k)
    rw [portArrival_of_handles handled rfl rfl rfl]
    split
    · exact ((warned _).withPort (scored.enter .barred)).raise _ _
    · exact arrivalAfterScore_sampleLaw (warned _) k _ _ (bodySamples_inRange body)

theorem arrivalAtShut_sampleLaw (hs : SampleLaw s) (f : FaderId) : SampleLaw (arrivalAtShut f s) := by
  cases f with
  | port k =>
    simp only [arrivalAtShut]
    split
    · exact (hs.withPort (hs.port k).onShut).raiseIf _ _ _
    · exact hs
  | lane n =>
    simp only [arrivalAtShut]
    split <;> exact hs
  | line n => exact hs

theorem sampleLaw_keptByEvents : KeptByEvents SampleLaw where
  ownFields _ _ _ hs := hs
  withHcu _ _ _ hs := hs
  raise c items _ hs := hs.raise c items
  restartNotice _ hs := hs.of_mapPorts rfl rfl fun _ hp => hp.notice
  houseSample _ hs := houseSample_sampleLaw hs
  loss k _ _ hs := (hs.withPort (hs.port k).lost).raise _ _
  withReceiver k _ _ hs := hs.of_setPort (by exact hs.port k) rfl rfl
  portArrival k capture body _ hs := portArrival_sampleLaw hs k capture body
  windowComplete k _ hs := windowComplete_sampleLaw hs k
  seedingEntry k _ hs := seedingEntry_sampleLaw hs k
  arrivalAtShut f _ hs := arrivalAtShut_sampleLaw hs f
  activateLane n s hs := hs.of_same (activateLane_ports s n) (activateLane_lines s n)
  completeCue i s hs := hs.of_same (completeCue_ports s i) (completeCue_lines s i)
  pinReset _ _ := reset_sampleLaw

/-! ### The requests -/

/-- Only Go, Halt, Counters Clear, the requests of chapter 9 and the two that can end a house sample change a line's
record. -/
def changesLines : Request → Bool
  | .go => true
  | .halt => true
  | .countersClear => true
  | .clockRate _ => true
  | .clockSource _ => true
  | .lineSetup _ _ _ => true
  | .lineMute _ _ => true
  | _ => false

theorem take_lines {q : Request} (hq : changesLines q = false) (s : State) : (take q s).1.lines = s.lines := by
  cases q with
  | go => cases hq
  | halt => cases hq
  | countersClear => cases hq
  | clockRate => cases hq
  | clockSource => cases hq
  | lineSetup => cases hq
  | lineMute => cases hq
  | identify => rfl
  | status => rfl
  | restart => rfl
  | clockQuery => rfl
  | cueSurvey => rfl
  | conditionSurvey => rfl
  | unknown => rfl
  | malformed => rfl
  | portSetup => simp only [take, takePortSetup]; repeat' split
                 all_goals simp
  | portAccept => simp only [take, takePortAccept]; split <;> simp
  | portQuery => simp only [take, takePortQuery]; split <;> rfl
  | portRevive => simp only [take, takePortRevive]; repeat' split
                  all_goals simp
  | laneBind => simp only [take, takeLaneBind]; repeat' split
                all_goals simp
  | laneSelect => simp only [take, takeLaneSelect]; repeat' split
                  all_goals simp
  | laneMute => simp only [take, takeLaneMute]; split <;> simp
  | laneQuery => simp only [take, takeLaneQuery]; split <;> rfl
  | routeWrite => simp only [take, takeRouteWrite]; repeat' split
                  all_goals simp
  | routeQuery => simp only [take, takeRouteQuery]; split <;> rfl
  | cueLoad => simp only [take, takeCueLoad]; repeat' split
               all_goals simp
  | cueAbort => simp only [take, takeCueAbort]; repeat' split
                all_goals simp
  | cueAbortAll => simp [take, takeCueAbortAll]
  | cueQuery => simp only [take, takeCueQuery]; split <;> rfl
  | lineQuery => simp only [take, takeLineQuery]; split <;> rfl
  | conditionTake => simp only [take, takeConditionTake]; split <;> rfl
  | conditionRelease => simp only [take, takeConditionRelease]; split <;> rfl
  | conditionMask => simp only [take, takeConditionMask]; split <;> rfl
  | conditionClear => simp only [take, takeConditionClear]; split <;> rfl

theorem SampleLaw.withOp (hs : SampleLaw s) (op : OpState) : SampleLaw (s.withOp op) :=
  hs.of_mapLines (State.withOp_ports s op) (State.withOp_lines s op) fun _ hl => hl

theorem SampleLaw.withLine (hs : SampleLaw s) {n : Fin 64} {l : Line} (hl : l.SampleLaw) :
    SampleLaw (s.withLine n l) := by
  refine sampleLaw_iff.mpr ⟨hs.port, fun m => ?_⟩
  rw [State.withLine_lines]
  by_cases hm : m = n
  · rwa [hm, getElem_set_self]
  · rw [getElem_set_of_ne _ hm]
    exact hs.line m

theorem takeGo_sampleLaw (hs : SampleLaw s) : SampleLaw (takeGo s).1 := by
  unfold takeGo
  cases s.op with
  | config => exact hs.withOp .starting
  | _ => exact hs

theorem takeHalt_sampleLaw (hs : SampleLaw s) : SampleLaw (takeHalt s).1 := by
  unfold takeHalt
  cases s.op with
  | starting => exact hs.withOp .stopping
  | run => exact hs.withOp .stopping
  | _ => exact hs

theorem takeCountersClear_sampleLaw (hs : SampleLaw s) : SampleLaw (takeCountersClear s).1 :=
  hs.of_mapBoth (f := Port.clearCounters) (g := fun l => { l with clips := 0 }) rfl rfl
    (fun _ hp => hp.clearCounters) fun _ hl => hl

theorem takeClockRate_sampleLaw (hs : SampleLaw s) (code : Byte) : SampleLaw (takeClockRate code s).1 := by
  unfold takeClockRate
  split
  · exact hs
  split
  · exact hs
  next r _ =>
    split
    · exact hs
    · have changed : SampleLaw ((s.withPorts (mapAll s.ports Port.rateChanged)).withHcu (s.hcu.changeRate r)) :=
        hs.of_mapPorts (State.withPorts_ports s _) (State.withPorts_lines s _) fun _ hp => hp.rateChanged
      refine sampleLaw_keptByEvents.settle ?_
      split
      · exact changed
      · exact sampleLaw_keptByEvents.restartNotice _ changed

theorem takeClockSource_sampleLaw (hs : SampleLaw s) (code : Byte) : SampleLaw (takeClockSource code s).1 := by
  unfold takeClockSource
  split
  · exact hs
  split
  · exact hs
  split
  · dsimp only
    split
    · exact hs
    · exact sampleLaw_keptByEvents.settle (sampleLaw_keptByEvents.restartNotice _ hs)
  · exact hs

theorem takePortSetup_sampleLaw (hs : SampleLaw s) (port enable rate latency window : Byte) :
    SampleLaw (takePortSetup port enable rate latency window s).1 := by
  unfold takePortSetup
  split
  · exact hs
  split
  next k e r l w _ _ _ _ _ => exact (hs.withPort (((hs.port k).setup e r l w).resync _) :)
  next => exact hs

theorem takePortAccept_sampleLaw (hs : SampleLaw s) (port tag mask : Byte) :
    SampleLaw (takePortAccept port tag mask s).1 := by
  unfold takePortAccept
  split
  next k _ => exact hs.withPort (by exact hs.port k)
  next => exact hs

theorem takePortRevive_sampleLaw (hs : SampleLaw s) (port : Byte) : SampleLaw (takePortRevive port s).1 := by
  unfold takePortRevive
  split
  next k _ =>
    have cleared : Port.SampleLaw { s.ports[k] with score := 0, degraded := false } := hs.port k
    dsimp only
    split
    · exact (hs.withPort (cleared.enter .hunt) :)
    · exact hs
  next => exact hs

theorem takeLineSetup_sampleLaw (hs : SampleLaw s) (line : Byte) (trim delay : Word16) :
    SampleLaw (takeLineSetup line trim delay s).1 := by
  unfold takeLineSetup
  split
  · exact hs
  next n _ =>
    dsimp only
    repeat' split
    case isFalse => exact hs.withLine ((hs.line n).setup _ _)
    all_goals exact hs

theorem takeLineMute_sampleLaw (hs : SampleLaw s) (line flag : Byte) : SampleLaw (takeLineMute line flag s).1 := by
  unfold takeLineMute
  split
  · exact hs
  split
  · exact hs.of_mapLines rfl rfl fun _ hl => hl
  split
  next n _ => exact hs.withLine (by exact hs.line n)
  next => exact hs

theorem take_sampleLaw (hs : SampleLaw s) (q : Request) : SampleLaw (take q s).1 := by
  cases q with
  | go => exact takeGo_sampleLaw hs
  | halt => exact takeHalt_sampleLaw hs
  | countersClear => exact takeCountersClear_sampleLaw hs
  | clockRate code => exact takeClockRate_sampleLaw hs code
  | clockSource code => exact takeClockSource_sampleLaw hs code
  | portSetup port enable rate latency window => exact takePortSetup_sampleLaw hs port enable rate latency window
  | portAccept port tag mask => exact takePortAccept_sampleLaw hs port tag mask
  | portRevive port => exact takePortRevive_sampleLaw hs port
  | lineSetup line trim delay => exact takeLineSetup_sampleLaw hs line trim delay
  | lineMute line flag => exact takeLineMute_sampleLaw hs line flag
  | _ => exact hs.of_same (take_ports rfl s) (take_lines rfl s)

theorem sampleLaw_keptByRequests : KeptByRequests SampleLaw where
  take q _ hs := take_sampleLaw hs q
  restart _ hs := hs.of_mapBoth rfl rfl (fun p _ => p.restart_sampleLaw) fun l _ => l.restart_sampleLaw
  withLink _ _ hs := hs
  linkFault _ _ _ hs := hs

end

/-- Settles O60: every operation of the part keeps every sample that it holds in range. -/
theorem stepKeepsSampleLaw : Obligations.StepKeepsSampleLaw := fun _ _ hs ht =>
  sampleLaw_keptByEvents.step sampleLaw_keptByRequests hs ht

end Sys2Proof.Machine
end

section
/-! SUPPORT. The roundings: of the interpolation and of the trim to the nearest, of a ramp and of the filter toward
where they start. -/

namespace Sys2Proof.Machine

/-! ## Rounding to the nearest (R61, R105) -/

/-- The rise of the interpolation before it is rounded, in units of 2^-49 (R61). -/
theorem interpolate_eq (xm x0 x1 x2 : Int) (f : Nat) : interpolate xm x0 x1 x2 f = x0 +
    (f * (x1 - xm) * 2 ^ 32 + f ^ 2 * (2 * xm - 5 * x0 + 4 * x1 - x2) * 2 ^ 16 +
      f ^ 3 * (-xm + 3 * x0 - 3 * x1 + x2) + 2 ^ 48) / 2 ^ 49 := by
  simp only [interpolate, pow_two, pow_three', Int.reducePow]

theorem interpolate_zero (xm x0 x1 x2 : Int) : interpolate xm x0 x1 x2 0 = x0 := by
  simp [interpolate]

theorem trimmed_zero (acc : Int) : trimmed acc 0 = 0 := by
  simp [trimmed]

/-! ## Truncation toward the start (R43, R119) -/

/-- A ramp upward: it truncates downward, to its start (R119). -/
theorem rampGain_of_le {start target : Nat} (up : start ≤ target) (k n : Nat) :
    rampGain start target k n = start + (target - start) * k / n := by
  have rise : (((target : Int) - start) * k).tdiv n = ((target - start) * k / n : Nat) := by
    rw [← Nat.cast_sub up, ← Nat.cast_mul, Int.ofNat_tdiv]
  rw [rampGain, rise, ← Nat.cast_add, Int.toNat_natCast]

/-- A ramp downward: it truncates upward, to its start (R119). -/
theorem rampGain_of_ge {start target : Nat} (down : target ≤ start) (k n : Nat) :
    rampGain start target k n = start - (start - target) * k / n := by
  have fall : (((target : Int) - start) * k).tdiv n = -((start - target) * k / n : Nat) := by
    rw [← neg_sub, ← Nat.cast_sub down, neg_mul, ← Nat.cast_mul, Int.neg_tdiv, Int.ofNat_tdiv]
  rw [rampGain, fall, ← sub_eq_add_neg, Int.toNat_sub]

/-- The part of a distance that k steps of N make: none at step 0, all at step N (R119). -/
theorem travelled_le {d k n : Nat} (h : k ≤ n) : d * k / n ≤ d :=
  Nat.div_le_of_le_mul (by rw [Nat.mul_comm]; exact Nat.mul_le_mul_right d h)

theorem rampGain_zero (start target n : Nat) : rampGain start target 0 n = start := by
  simp [rampGain]

theorem rampGain_self (start target : Nat) {n : Nat} (hn : 0 < n) : rampGain start target n n = target := by
  rcases le_total start target with up | down
  · rw [rampGain_of_le up, Nat.mul_div_cancel _ hn, Nat.add_sub_cancel' up]
  · rw [rampGain_of_ge down, Nat.mul_div_cancel _ hn, Nat.sub_sub_self down]

/-- A ramp stays between its start and its target (R119). -/
theorem rampGain_between {start target k n : Nat} (h : k ≤ n) :
    min start target ≤ rampGain start target k n ∧ rampGain start target k n ≤ max start target := by
  rcases le_total start target with up | down
  · have travelled := travelled_le (d := target - start) h
    rw [rampGain_of_le up]
    generalize (target - start) * k / n = q at *
    omega
  · have travelled := travelled_le (d := start - target) h
    rw [rampGain_of_ge down]
    generalize (start - target) * k / n = q at *
    omega

/-- The filter is the first of sixteen steps from the filtered step to the measured one (R43). -/
theorem filterStep_eq_rampGain (sFilt sMeas : Nat) : filterStep sFilt sMeas = rampGain sFilt sMeas 1 16 := by
  simp [filterStep, rampGain]

/-- Settles O49: each quotient lies between its two bounds, and the two truncations go by their direction. -/
theorem roundings : Obligations.Roundings := by
  refine ⟨fun xm x0 x1 x2 f => ?_, fun acc trim => ?_, fun start target k n hn hk => ?_, fun sFilt sMeas => ?_⟩
  · intro m y
    have rise : y = x0 + (m + 2 ^ 48) / 2 ^ 49 := interpolate_eq xm x0 x1 x2 f
    exact ⟨by omega, by omega, interpolate_zero xm x0 x1 x2⟩
  · have rounded : trimmed acc trim = (acc * trim + 2 ^ 29) / 2 ^ 30 := rfl
    exact ⟨by omega, by omega, trimmed_zero acc⟩
  · obtain ⟨low, high⟩ := rampGain_between (start := start) (target := target) hk
    exact ⟨rampGain_zero start target n, rampGain_self start target hn, low, high,
      fun up => rampGain_of_le up k n, fun down => rampGain_of_ge down k n⟩
  · rw [filterStep_eq_rampGain]
    exact ⟨fun up => by rw [rampGain_of_le up, Nat.mul_one], fun down => by rw [rampGain_of_ge down, Nat.mul_one]⟩

end Sys2Proof.Machine
end

section
/-! SUPPORT. The resampler and the port fader at a house sample: the bands, the interpolation and the fader's step, each
by its cases; and the conditions that a house sample leaves as the ports' stage has them. -/

namespace Sys2Proof.Machine

/-! ## The bands (R55 to R58) -/

/-- An arrival at SHUT makes OPENING from level 0 of the fader that is given OPEN (R72). -/
theorem Fader.giveOpen_of_shut {f : Fader} (h : f.state = .shut) : f.giveOpen = ⟨.opening, 0⟩ := by
  simp only [Fader.giveOpen, h]

/-- The target SHUT is reached at once from OPENING at level 0 alone (R71). -/
theorem Fader.arrivesShut_giveShut_iff {f : Fader} : f.arrivesShut f.giveShut = true ↔ f = ⟨.opening, 0⟩ := by
  obtain ⟨state, level⟩ := f
  rw [Fader.arrivesShut_iff]
  cases state <;> simp [Fader.giveShut]
  split <;> simp_all

theorem Port.hardSlip_eq (p : Port) : p.hardSlip = { p with
    fader := if p.resampler.slipPending then p.fader.giveOpen else p.fader,
    resampler := { p.resampler with
      int := p.written - BitVec.ofNat 32 p.latency, frac := 0, slipPending := false,
      hardSlips := min (p.resampler.hardSlips + 1) 65535 } } := by
  simp only [Port.hardSlip]
  split <;> rfl

theorem Port.bands_of_outside {p : Port} (h : p.fill < 3 ∨ 60 < p.fill) : p.bands = (p.hardSlip, true) := by
  rw [Port.bands, if_pos h]

/-- A soft slip that begins with the fader at level 0 completes at once (R57, R58, R71). -/
theorem Port.bands_of_opening {p : Port} (locked : p.state = .locked) (h : ¬(p.fill < 3 ∨ 60 < p.fill))
    (hs : p.resampler.slipPending = false) (soft : p.fill ≤ 6 ∨ 56 ≤ p.fill) (hf : p.fader = ⟨.opening, 0⟩) :
    p.bands = ({ p with
      resampler := { p.resampler with
        int := p.written - BitVec.ofNat 32 p.latency, frac := 0,
        softSlips := min (p.resampler.softSlips + 1) 65535 } }, true) := by
  have arrives : p.fader.arrivesShut p.setSlipPending.fader = true := Fader.arrivesShut_giveShut_iff.mpr hf
  have pending : p.setSlipPending.onShut = (p.setSlipPending.softSlip, true) := by
    simp only [Port.onShut, Port.setSlipPending, locked, if_true]
  have opens : p.fader.giveShut.giveOpen = p.fader := by rw [hf]; rfl
  rw [Port.bands, if_neg h, if_pos ⟨soft, hs⟩]
  dsimp only
  rw [if_pos arrives, pending]
  simp only [Port.softSlip, Port.setSlipPending, Port.recentre, opens, countUp, max16, hs]

/-- Every other house sample within the hard band: a slip is or becomes pending, or nothing happens (R57). -/
theorem Port.bands_of_inside {p : Port} (h : ¬(p.fill < 3 ∨ 60 < p.fill))
    (hn : ¬(p.resampler.slipPending = false ∧ (p.fill ≤ 6 ∨ 56 ≤ p.fill) ∧ p.fader = ⟨.opening, 0⟩)) :
    let pending := p.resampler.slipPending || decide (p.fill ≤ 6 ∨ 56 ≤ p.fill)
    p.bands = ({ p with
      fader := if pending && !p.resampler.slipPending then p.fader.giveShut else p.fader,
      resampler := { p.resampler with slipPending := pending } }, false) := by
  rw [Port.bands, if_neg h]
  cases hs : p.resampler.slipPending with
  | true =>
    have same : ({ p with resampler := { p.resampler with slipPending := true } } : Port) = p := by rw [← hs]
    rw [if_neg (by simp)]
    simp [same]
  | false =>
    by_cases soft : p.fill ≤ 6 ∨ 56 ≤ p.fill
    · have stays : ¬p.fader.arrivesShut p.setSlipPending.fader = true := fun arrives =>
        hn ⟨hs, soft, Fader.arrivesShut_giveShut_iff.mp arrives⟩
      rw [if_pos ⟨soft, rfl⟩]
      dsimp only
      rw [if_neg stays]
      simp [Port.setSlipPending, soft]
    · have same : ({ p with resampler := { p.resampler with slipPending := false } } : Port) = p := by rw [← hs]
      rw [if_neg (by simp [soft])]
      simp [soft, same]

/-! ## The interpolation (R60 to R62) -/

theorem bne_saturate (x : Int) : (x != saturate x) = (decide (x < -8388608) || decide (8388607 < x)) := by
  rw [Bool.eq_iff_iff, saturate_eq]
  simp
  omega

/-- The outputs that a port's rings give at a read position (R62). -/
def Port.outsAt (p : Port) (i : Word32) (frac : Nat) : Frame :=
  Vector.ofFn fun t => max (-8388608) (min 8388607 (p.interpolatedAt i frac)[t])

/-- A port's overshoot counter after the interpolation at a read position (R62). -/
def Port.oversAt (p : Port) (i : Word32) (frac : Nat) : Nat :=
  min (p.resampler.overshoots + ((List.finRange 8).filter fun t : Fin 8 =>
    decide ((p.interpolatedAt i frac)[t] < -8388608) || decide (8388607 < (p.interpolatedAt i frac)[t])).length)
    4294967295

theorem Port.interpolateAll_eq (p : Port) : p.interpolateAll = { p with
    resampler := { p.resampler with
      held := p.outsAt p.resampler.int p.resampler.frac,
      overshoots := p.oversAt p.resampler.int p.resampler.frac } } := by
  have slots : Vector.ofFn p.interpolated = p.interpolatedAt p.resampler.int p.resampler.frac := rfl
  simp only [Port.interpolateAll, slots, mapAll, overshootCount, bne_saturate, List.countP_eq_length_filter]
  simp only [saturate_eq]
  rfl

/-! ## The fader's step and the action at SHUT (R58, R65, R73) -/

/-- The fader's step of a house sample, and the port's action where it arrives at SHUT. The second component says that
Slip is raised. -/
def Port.stepFader (p : Port) : Port × Bool :=
  let q := { p with fader := p.fader.step }
  if p.fader.arrivesShut p.fader.step then q.onShut else (q, false)

theorem Port.houseSample_port (p : Port) : p.houseSample.port = p.resample.1.stepFader.1 := by
  simp only [Port.houseSample, Port.stepFader]
  split <;> rfl

theorem Port.houseSample_slip (p : Port) : p.houseSample.slip = (p.resample.2 || p.resample.1.stepFader.2) := by
  simp only [Port.houseSample, Port.stepFader]
  split
  · rfl
  · rw [Bool.or_false]

/-- Outside LOCKED the held outputs become zero where the fader reaches SHUT (R65). -/
theorem Port.stepFader_of_not_locked {p : Port} (hn : p.state ≠ .locked) : p.stepFader = ({ p with
    fader := p.fader.step,
    resampler := { p.resampler with
      held := if p.fader.state ≠ .shut ∧ p.fader.step.state = .shut then Frame.zero else p.resampler.held } },
    false) := by
  simp only [Port.stepFader, Port.onShut, hn, if_false, ← Fader.arrivesShut_iff]
  split <;> rfl

/-- In LOCKED the fader's arrival at SHUT calls for no action without a pending slip (R77). -/
theorem Port.stepFader_of_settled {p : Port} (locked : p.state = .locked)
    (h : p.resampler.slipPending = true → ¬(p.fader.state ≠ .shut ∧ p.fader.step.state = .shut)) :
    p.stepFader = ({ p with fader := p.fader.step }, false) := by
  simp only [Port.stepFader, Port.onShut, locked, if_true, Fader.arrivesShut_iff]
  split
  next arrives => rw [if_neg fun hs => h hs arrives]
  next => rfl

/-- A pending soft slip completes where the fader reaches SHUT (R58). -/
theorem Port.stepFader_of_slip {p : Port} (locked : p.state = .locked) (hs : p.resampler.slipPending = true)
    (arrives : p.fader.state ≠ .shut ∧ p.fader.step.state = .shut) : p.stepFader = ({ p with
      fader := ⟨.opening, 0⟩,
      resampler := { p.resampler with
        int := p.written - BitVec.ofNat 32 p.latency, frac := 0, slipPending := false,
        softSlips := min (p.resampler.softSlips + 1) 65535 } }, true) := by
  rw [Port.stepFader, if_pos (Fader.arrivesShut_iff.mpr arrives)]
  simp only [Port.onShut, locked, hs, if_true, Port.softSlip, Port.recentre,
    Fader.giveOpen_of_shut arrives.2, countUp, max16]

/-! ## A LOCKED port at a house sample, case by case (R54 to R62, R73) -/

/-- A port after the advance of its read position (R54). -/
def Port.advanced (p : Port) : Port := { p with resampler := p.resampler.advance p.tracker.sApplied }

/-- The recentred read position: W less the target latency (R56, R58). -/
def Port.centre (p : Port) : Word32 := p.written - BitVec.ofNat 32 p.latency

section
variable {p : Port}

theorem Port.houseSample_of_not_locked (hn : p.state ≠ .locked) : p.houseSample.slip = false ∧
    p.houseSample.port = { p with
      fader := p.fader.step,
      resampler := { p.resampler with
        held := if p.fader.state ≠ .shut ∧ p.fader.step.state = .shut then Frame.zero else p.resampler.held } } := by
  have resampled : p.resample = (p, false) := if_neg hn
  rw [Port.houseSample_slip, Port.houseSample_port, resampled, Port.stepFader_of_not_locked hn]
  exact ⟨rfl, rfl⟩

/-- What the bands make of the advanced port goes through the interpolation and the fader's step. -/
theorem Port.houseSample_of_bands (locked : p.state = .locked) {b c : Port} {slip slip' : Bool}
    (bands : p.advanced.bands = (b, slip)) (step : b.interpolateAll.stepFader = (c, slip')) :
    p.houseSample.slip = (slip || slip') ∧ p.houseSample.port = c := by
  have resampled : p.resample = (b.interpolateAll, slip) := by
    rw [Port.resample, if_pos locked]
    change (p.advanced.bands.1.interpolateAll, p.advanced.bands.2) = _
    rw [bands]
  rw [Port.houseSample_slip, Port.houseSample_port, resampled, step]
  exact ⟨rfl, rfl⟩

theorem Port.houseSample_of_outside (locked : p.state = .locked) (h : p.advanced.fill < 3 ∨ 60 < p.advanced.fill) :
    p.houseSample.slip = true ∧ p.houseSample.port = { p with
      fader := (if p.resampler.slipPending then p.fader.giveOpen else p.fader).step,
      resampler := { p.resampler with
        int := p.centre, frac := 0, slipPending := false, held := p.outsAt p.centre 0,
        overshoots := p.oversAt p.centre 0, hardSlips := min (p.resampler.hardSlips + 1) 65535 } } := by
  refine Port.houseSample_of_bands locked (Port.bands_of_outside h) (slip' := false) ?_
  rw [Port.hardSlip_eq, Port.interpolateAll_eq]
  exact Port.stepFader_of_settled locked nofun

theorem Port.houseSample_of_opening (locked : p.state = .locked)
    (h : ¬(p.advanced.fill < 3 ∨ 60 < p.advanced.fill)) (hs : p.resampler.slipPending = false)
    (soft : p.advanced.fill ≤ 6 ∨ 56 ≤ p.advanced.fill) (hf : p.fader = ⟨.opening, 0⟩) :
    p.houseSample.slip = true ∧ p.houseSample.port = { p with
      fader := ⟨.opening, 1⟩,
      resampler := { p.resampler with
        int := p.centre, frac := 0, held := p.outsAt p.centre 0, overshoots := p.oversAt p.centre 0,
        softSlips := min (p.resampler.softSlips + 1) 65535 } } := by
  have stepped : p.fader.step = ⟨.opening, 1⟩ := by rw [hf]; rfl
  rw [← stepped]
  refine Port.houseSample_of_bands locked (Port.bands_of_opening locked h hs soft hf) (slip' := false) ?_
  rw [Port.interpolateAll_eq]
  exact Port.stepFader_of_settled locked fun pending => absurd (hs.symm.trans pending) Bool.false_ne_true

/-- Within the hard band, with `pending` for the slip-pending flag and `before` for the fader after the bands: the slip
completes where the fader reaches SHUT (R57, R58). -/
theorem Port.houseSample_of_inside (locked : p.state = .locked)
    (h : ¬(p.advanced.fill < 3 ∨ 60 < p.advanced.fill))
    (hn : ¬(p.resampler.slipPending = false ∧ (p.advanced.fill ≤ 6 ∨ 56 ≤ p.advanced.fill) ∧
      p.fader = ⟨.opening, 0⟩)) :
    let r := p.advanced.resampler
    let pending := p.resampler.slipPending || decide (p.advanced.fill ≤ 6 ∨ 56 ≤ p.advanced.fill)
    let before := if pending && !p.resampler.slipPending then p.fader.giveShut else p.fader
    (pending = true ∧ before.state ≠ .shut ∧ before.step.state = .shut →
      p.houseSample.slip = true ∧ p.houseSample.port = { p with
        fader := ⟨.opening, 0⟩,
        resampler := { r with
          int := p.centre, frac := 0, slipPending := false, held := p.outsAt r.int r.frac,
          overshoots := p.oversAt r.int r.frac, softSlips := min (r.softSlips + 1) 65535 } }) ∧
    (¬(pending = true ∧ before.state ≠ .shut ∧ before.step.state = .shut) →
      p.houseSample.slip = false ∧ p.houseSample.port = { p with
        fader := before.step,
        resampler := { r with
          slipPending := pending, held := p.outsAt r.int r.frac, overshoots := p.oversAt r.int r.frac } }) := by
  intro r pending before
  have bands := Port.bands_of_inside h hn
  constructor
  · rintro ⟨slips, arrives⟩
    refine Port.houseSample_of_bands locked bands (slip' := true) ?_
    rw [Port.interpolateAll_eq]
    exact Port.stepFader_of_slip locked slips arrives
  · intro stays
    refine Port.houseSample_of_bands locked bands (slip' := false) ?_
    rw [Port.interpolateAll_eq]
    exact Port.stepFader_of_settled locked fun slips arrives => stays ⟨slips, arrives⟩

end

/-! ## The conditions at a house sample (R154) -/

section
/-- From `s` to `t` condition `i` stays as it is. -/
def KeepsCondition (i : Fin 12) (s t : State) : Prop := t.conditions[i] = s.conditions[i]

variable {i : Fin 12} {s t u : State}

theorem KeepsCondition.refl (i : Fin 12) (s : State) : KeepsCondition i s s := rfl

theorem KeepsCondition.trans (h : KeepsCondition i s t) (h' : KeepsCondition i t u) : KeepsCondition i s u :=
  Eq.trans h' h

theorem KeepsCondition.raise (h : KeepsCondition i s t) {c : Cond} (hi : i ≠ c.index) (items : BitVec 64) :
    KeepsCondition i s (t.raise c items) := by
  rw [KeepsCondition, raise_conditions, if_neg hi.symm]
  exact h

theorem KeepsCondition.withTaken (h : KeepsCondition i s t) (taken : Vector Bool 48) :
    KeepsCondition i s { t with cueTaken := taken } := h

theorem KeepsCondition.withLines (h : KeepsCondition i s t) (lines : Vector Line 64) :
    KeepsCondition i s { t with lines := lines } := h

theorem runWinner_keepsCondition (hi : i ≠ Cond.cueDone.index) (j : Fin 32) (c : Cue) (h : Word32) (s : State) :
    KeepsCondition i s (runWinner j c h s) := by
  have same : KeepsCondition i s s := .refl i s
  simp only [runWinner]
  split
  · exact same
  split
  · exact KeepsCondition.raise same hi _
  · exact KeepsCondition.raise same hi _

theorem activateLane_keepsCondition (hi : i ≠ Cond.cueDone.index) (n : Fin 48) (s : State) :
    KeepsCondition i s (activateLane n s) := by
  have same : KeepsCondition i s s := .refl i s
  simp only [activateLane]
  split
  · exact same
  split
  · exact same
  split
  · exact runWinner_keepsCondition hi _ _ _ { s with cueTaken := s.cueTaken.set n true }
  · exact same

theorem completeCue_keepsCondition (hi : i ≠ Cond.cueDone.index) (j : Fin 32) (s : State) :
    KeepsCondition i s (completeCue j s) := by
  have same : KeepsCondition i s s := .refl i s
  simp only [completeCue]
  split
  · split
    · exact KeepsCondition.raise same hi _
    · exact same
  · exact same

theorem cueStage_keepsCondition (hi : i ≠ Cond.cueDone.index) (s : State) : KeepsCondition i s (cueStage s) := by
  have stepped : KeepsCondition i s ((indices 32).foldl (fun t j => rampStep j t) s) := by
    refine foldl_kept (P := KeepsCondition i s) (g := fun t j => rampStep j t) (fun t j ht => ht.trans ?_) _ (.refl i s)
    rw [KeepsCondition, rampStep_conditions]
  exact foldl_kept (P := KeepsCondition i s) (g := fun t n => activateLane n t)
    (fun t n ht => ht.trans (activateLane_keepsCondition hi n t)) (indices 48) stepped

theorem completionStage_keepsCondition (hi : i ≠ Cond.cueDone.index) (s : State) :
    KeepsCondition i s (completionStage s) := by
  have completed := foldl_kept (P := KeepsCondition i s) (g := fun t j => completeCue j t)
    (fun t j ht => ht.trans (completeCue_keepsCondition hi j t)) (indices 32) (.refl i s)
  exact completed.withTaken _

theorem mixStage_keepsCondition (hi : i ≠ Cond.clip.index) (outs : Vector Sample 48) (s : State) :
    KeepsCondition i s (mixStage outs s).1 := by
  have counted := (KeepsCondition.refl i s).withLines
  simp only [mixStage, State.raiseSet, State.raiseIf]
  split
  · exact (counted _).raise hi _
  · exact counted _

theorem runTest_keepsCondition (hi : i ≠ Cond.stateReached.index) (s : State) : KeepsCondition i s (runTest s) := by
  have same : KeepsCondition i s s := .refl i s
  unfold runTest
  split
  · split
    · exact KeepsCondition.raise same hi _
    · exact same
  · split
    · exact KeepsCondition.raise same hi _
    · exact same
  · exact same

/-- The stages after the ports' raise Cue Done, Clip and State Reached alone (R106, R120, R146, R147). -/
theorem houseSample_keepsCondition (hcue : i ≠ Cond.cueDone.index) (hclip : i ≠ Cond.clip.index)
    (hstate : i ≠ Cond.stateReached.index) (s : State) : KeepsCondition i (portsStage s).1 (houseSample s) := by
  rw [KeepsCondition]
  simp only [houseSample, signalPath, egressStage_conditions]
  rw [runTest_keepsCondition hstate, lineStage_conditions, completionStage_keepsCondition hcue,
    mixStage_keepsCondition hclip, cueStage_keepsCondition hcue, lanesStage_conditions]

/-- Slip is raised for exactly the ports whose stage says so (R66). -/
theorem houseSample_slip_raisedBy (s : State) : Condition.RaisedBy
    (fun n => ∃ k : Fin 6, k.val = n ∧ s.ports[k].houseSample.slip = true) s.conditions[Cond.slip.index]
    (houseSample s).conditions[Cond.slip.index] := by
  have kept := houseSample_keepsCondition (i := Cond.slip.index) (by decide) (by decide) (by decide) s
  have raised := State.raiseSet_raisedBy { s with ports := (portsStage s).1.ports } (by decide) .slip
    fun k : Fin 6 => s.ports[k].houseSample.slip
  have stage : (portsStage s).1 = State.raiseSet .slip (setBits fun k : Fin 6 => s.ports[k].houseSample.slip)
      { s with ports := (portsStage s).1.ports } := by
    simp [portsStage]
  rw [KeepsCondition] at kept
  rw [kept, stage]
  exact raised

end

/-- Settles O6: the port by the case of its state, its fill and its fader, and Slip by the ports' stage. -/
theorem houseSamplePorts : Obligations.HouseSamplePorts := by
  intro s₀ s
  refine ⟨houseSample s, rfl, fun k => s.ports[k].houseSample.slip = true, fun k => ?_, houseSample_slip_raisedBy s⟩
  intro p r i frac fill centre outs overs
  have port : (houseSample s).ports[k] = p.houseSample.port := by
    rw [houseSample_ports, Fin.getElem_fin, getElem_mapAll]
    rfl
  rw [port]
  split
  next unlocked =>
    obtain ⟨slip, made⟩ := Port.houseSample_of_not_locked unlocked
    exact ⟨Bool.eq_false_iff.mp slip, made⟩
  next locked =>
  have locked : p.state = .locked := not_not.mp locked
  split
  next outside => exact Port.houseSample_of_outside locked outside
  next inside =>
  split
  next opening =>
    obtain ⟨hs, soft, hf⟩ := opening
    exact Port.houseSample_of_opening locked inside hs soft hf
  next other =>
  obtain ⟨completes, goes⟩ := Port.houseSample_of_inside locked inside other
  intro pending before
  split
  next arrives => exact completes arrives
  next stays =>
    obtain ⟨slip, made⟩ := goes stays
    exact ⟨Bool.eq_false_iff.mp slip, made⟩

end Sys2Proof.Machine
end

section
/-! SUPPORT. A fader by itself (chapter 5): what a target and a step do to it, that both keep its level law, and how its
level scales a sample. -/

namespace Sys2Proof.Machine

variable {f : Fader}

/-! ## The level law (R70), state by state -/

theorem Fader.law_opened {level : Nat} : Fader.Law ⟨.opened, level⟩ ↔ level = 64 := by simp [Fader.Law]
theorem Fader.law_shut {level : Nat} : Fader.Law ⟨.shut, level⟩ ↔ level = 0 := by simp [Fader.Law]
theorem Fader.law_closing {level : Nat} : Fader.Law ⟨.closing, level⟩ ↔ 1 ≤ level ∧ level ≤ 64 := by simp [Fader.Law]
theorem Fader.law_opening {level : Nat} : Fader.Law ⟨.opening, level⟩ ↔ level ≤ 63 := by simp [Fader.Law]

theorem Fader.Law.eq_of_shut (h : f.Law) (shut : f.state = .shut) : f = ⟨.shut, 0⟩ := by
  obtain ⟨state, level⟩ := f
  obtain rfl : state = .shut := shut
  rw [Fader.law_shut.mp h]

theorem Fader.Law.level_of_opened (h : f.Law) (opened : f.state = .opened) : f.level = 64 := by
  obtain ⟨full, -⟩ := h
  exact full opened

theorem Fader.Law.level_le (h : f.Law) : f.level ≤ 64 := by
  obtain ⟨state, level⟩ := f
  cases state with
  | opened => exact (Fader.law_opened.mp h).le
  | closing => exact (Fader.law_closing.mp h).2
  | shut => exact (Fader.law_shut.mp h).trans_le (Nat.zero_le 64)
  | opening => exact (Fader.law_opening.mp h).trans (by decide)

/-! ## Targets (R71, R72) and steps (R73) -/

theorem Fader.giveShut_eq (f : Fader) : f.giveShut =
    if f.state = .opened then ⟨.closing, 64⟩
    else if f.state = .opening ∧ f.level = 0 then ⟨.shut, 0⟩
    else if f.state = .opening then ⟨.closing, f.level⟩ else f := by
  obtain ⟨state, level⟩ := f
  cases state <;> simp [Fader.giveShut]

theorem Fader.giveOpen_eq (f : Fader) : f.giveOpen =
    if f.state = .shut then ⟨.opening, 0⟩
    else if f.state = .closing ∧ f.level = 64 then ⟨.opened, 64⟩
    else if f.state = .closing then ⟨.opening, f.level⟩ else f := by
  obtain ⟨state, level⟩ := f
  cases state <;> simp [Fader.giveOpen]

theorem Fader.Law.giveShut (h : f.Law) : f.giveShut.Law := by
  obtain ⟨state, level⟩ := f
  cases state with
  | opened => exact Fader.law_closing.mpr (by decide)
  | closing => exact h
  | shut => exact h
  | opening =>
    rw [Fader.law_opening] at h
    simp only [Fader.giveShut]
    split
    · exact Fader.law_shut.mpr rfl
    · exact Fader.law_closing.mpr (by omega)

theorem Fader.Law.giveOpen (h : f.Law) : f.giveOpen.Law := by
  obtain ⟨state, level⟩ := f
  cases state with
  | opened => exact h
  | opening => exact h
  | shut => exact Fader.law_opening.mpr (by decide)
  | closing =>
    rw [Fader.law_closing] at h
    simp only [Fader.giveOpen]
    split
    · exact Fader.law_opened.mpr rfl
    · exact Fader.law_opening.mpr (by omega)

theorem Fader.Law.give (h : f.Law) (toOpen : Bool) : (f.give toOpen).Law := by
  cases toOpen with
  | false => exact h.giveShut
  | true => exact h.giveOpen

theorem Fader.Law.step_of_closing (h : f.Law) (closing : f.state = .closing) :
    f.step = if f.level = 1 then ⟨.shut, 0⟩ else ⟨.closing, f.level - 1⟩ := by
  obtain ⟨state, level⟩ := f
  obtain rfl : state = .closing := closing
  have last : level ≤ 1 ↔ level = 1 := by
    rw [Fader.law_closing] at h
    omega
  simp only [Fader.step, last]

theorem Fader.Law.step_of_opening (h : f.Law) (opening : f.state = .opening) :
    f.step = if f.level = 63 then ⟨.opened, 64⟩ else ⟨.opening, f.level + 1⟩ := by
  obtain ⟨state, level⟩ := f
  obtain rfl : state = .opening := opening
  have last : 63 ≤ level ↔ level = 63 := by
    rw [Fader.law_opening] at h
    omega
  simp only [Fader.step, last]

/-- A fader at rest stays as it is (R73). -/
theorem Fader.step_of_rest (h : f.state = .opened ∨ f.state = .shut) : f.step = f := by
  rcases h with h | h <;> simp only [Fader.step, h]

theorem Fader.Law.step (h : f.Law) : f.step.Law := by
  cases hs : f.state with
  | opened => rwa [Fader.step_of_rest (.inl hs)]
  | shut => rwa [Fader.step_of_rest (.inr hs)]
  | closing =>
    rw [h.step_of_closing hs]
    obtain ⟨-, -, bounds, -⟩ := h
    have := bounds hs
    split
    · exact Fader.law_shut.mpr rfl
    · exact Fader.law_closing.mpr (by omega)
  | opening =>
    rw [h.step_of_opening hs]
    obtain ⟨-, -, -, bound⟩ := h
    have := bound hs
    split
    · exact Fader.law_opened.mpr rfl
    · exact Fader.law_opening.mpr (by omega)

/-- A step that arrives at SHUT arrives at level 0, whatever the fader was (R73). -/
theorem Fader.step_of_arrives (h : f.arrivesShut f.step = true) : f.step = ⟨.shut, 0⟩ := by
  obtain ⟨before, after⟩ := Fader.arrivesShut_iff.mp h
  obtain ⟨state, level⟩ := f
  cases state <;> simp only [Fader.step] at before after ⊢
  case shut => exact absurd rfl before
  case closing => split at after <;> simp_all
  case opening => split at after <;> simp_all
  case opened => simp at after

/-- A fader at SHUT that is given a target stays there, or begins to open (R71, R72). -/
theorem Fader.give_shut (toOpen : Bool) :
    Fader.give toOpen ⟨.shut, 0⟩ = if toOpen then ⟨.opening, 0⟩ else ⟨.shut, 0⟩ := by
  cases toOpen <;> rfl

/-! ## Scaling (R74) -/

theorem scale_zero (x : Sample) : scale 0 x = 0 := by simp [scale]

theorem scale_full (x : Sample) : scale 64 x = x :=
  Int.mul_tdiv_cancel x (by decide)

theorem scale_natAbs (level : Nat) (x : Sample) : (scale level x).natAbs = x.natAbs * level / 64 := by
  rw [scale, Int.natAbs_tdiv, Int.natAbs_mul, Int.natAbs_natCast]
  rfl

theorem scale_nonneg (level : Nat) {x : Sample} (h : 0 ≤ x) : 0 ≤ scale level x :=
  Int.tdiv_nonneg (mul_nonneg h (Int.natCast_nonneg level)) (by decide)

theorem scale_neg (level : Nat) (x : Sample) : scale level (-x) = -scale level x := by
  simp [scale, Int.neg_tdiv]

theorem scale_nonpos (level : Nat) {x : Sample} (h : x ≤ 0) : scale level x ≤ 0 := by
  have mirrored := scale_nonneg level (neg_nonneg.mpr h)
  rw [scale_neg] at mirrored
  exact neg_nonneg.mp mirrored

/-- A level moves a sample toward zero, never past it or away from it (R74). -/
theorem scale_natAbs_le {level : Nat} (h : level ≤ 64) (x : Sample) : (scale level x).natAbs ≤ x.natAbs := by
  rw [scale_natAbs]
  exact Nat.div_le_of_le_mul (by rw [Nat.mul_comm 64]; exact Nat.mul_le_mul_left _ h)

/-- What lies on the same side of zero and no farther is in range too (R74). -/
theorem inRange_of_natAbs_le {x y : Int} (hx : InRange x) (nearer : y.natAbs ≤ x.natAbs) (up : 0 ≤ x → 0 ≤ y)
    (down : x ≤ 0 → y ≤ 0) : InRange y := by
  have bounds : (-8388608 : Int) ≤ x ∧ x ≤ 8388607 := hx
  change (-8388608 : Int) ≤ y ∧ y ≤ 8388607
  omega

theorem scale_inRange {level : Nat} (h : level ≤ 64) {x : Sample} (hx : InRange x) : InRange (scale level x) :=
  inRange_of_natAbs_le hx (scale_natAbs_le h x) (scale_nonneg level) (scale_nonpos level)

/-- Settles O27: the two tables and the step by the fader's state, and the level between 0 and 64. -/
theorem faderMoves : Obligations.FaderMoves := fun f h =>
  ⟨f.giveShut_eq, f.giveOpen_eq, h.step_of_closing, h.step_of_opening, Fader.step_of_rest, h.giveShut, h.giveOpen,
    h.step, fun x hx => ⟨scale_inRange h.level_le hx, scale_natAbs_le h.level_le x, scale_natAbs f.level x,
      scale_nonneg f.level, scale_nonpos f.level, fun opened => by rw [h.level_of_opened opened, scale_full],
      fun shut => by rw [h.eq_of_shut shut, scale_zero]⟩⟩

/-! ## A lane and its fader (R76, R85 to R87) -/

section
variable {l : Lane} {w : Which}

theorem Lane.wantsOpen_iff :
    l.wantsOpen = true ↔ l.mute = false ∧ l.selection ≠ none ∧ l.pendingSwitch = none := by
  simp [Lane.wantsOpen, Option.isSome_iff_ne_none, and_assoc]

theorem Lane.completeSwitch_of_none (h : l.pendingSwitch = none) : l.completeSwitch = l := by
  simp only [Lane.completeSwitch, h]

/-- A pending switch completes at SHUT: it becomes the selection, and an unmuted lane opens (R76, R86). -/
theorem Lane.completeSwitch_of_shut (h : l.pendingSwitch = some w) (shut : l.fader = ⟨.shut, 0⟩) :
    l.completeSwitch = { l with
      selection := some w, pendingSwitch := none, fader := if l.mute then ⟨.shut, 0⟩ else ⟨.opening, 0⟩ } := by
  simp only [Lane.completeSwitch, h, shut, Fader.give_shut, Lane.wantsOpen]
  cases l.mute <;> rfl

/-- Settles O28: the target, and the pending switch where the fader is then SHUT. -/
theorem laneRetarget : Obligations.LaneRetarget := by
  intro l h f
  have given : l.fader.give l.wantsOpen = f := by
    simp only [Fader.give, Lane.wantsOpen_iff, f]
  have lawful : f.Law := given ▸ h.give l.wantsOpen
  have retarget : l.retarget = if f.state = .shut then Lane.completeSwitch { l with fader := f }
      else { l with fader := f } := by
    simp only [Lane.retarget, given]
  rw [retarget]
  cases hp : l.pendingSwitch with
  | none =>
    rw [Lane.completeSwitch_of_none rfl, ite_self]
  | some w =>
    dsimp only
    split
    next shut => exact Lane.completeSwitch_of_shut rfl (lawful.eq_of_shut shut)
    next => rfl

end

end Sys2Proof.Machine
end

section
/-! SUPPORT. The stages of a house sample, member by member: what each port, lane and line has after its stage and hands
on to the next. -/

namespace Sys2Proof.Machine

/-! ## The lanes' stage (R81) -/

/-- What the ports' stage hands to the lanes (R63). -/
theorem portsStage_outs (s : State) (k : Fin 6) : (portsStage s).2[k] = s.ports[k].houseSample.outs := by
  simp [portsStage]

theorem lanesStage_lane (outs : Vector Frame 6) (s : State) (n : Fin 48) :
    (lanesStage outs s).1.lanes[n] = (s.lanes[n].houseSample outs).1 := by
  simp [lanesStage]

theorem lanesStage_out (outs : Vector Frame 6) (s : State) (n : Fin 48) :
    (lanesStage outs s).2[n] = (s.lanes[n].houseSample outs).2 := by
  simp [lanesStage]

theorem signalPath_lanes (s : State) :
    (signalPath s).lanes = (lanesStage (portsStage s).2 (portsStage s).1).1.lanes := by
  simp only [signalPath, egressStage_lanes, runTest_lanes, lineStage_lanes, completionStage_lanes, mixStage_lanes,
    cueStage_lanes]

/-- No stage after the lanes' changes a lane. -/
theorem houseSample_lane (s : State) (n : Fin 48) :
    (houseSample s).lanes[n] = (s.lanes[n].houseSample (portsStage s).2).1 := by
  simp only [houseSample, signalPath_lanes, lanesStage_lane, portsStage_lanes]

/-- A lane at its stage: the fader's step, and the pending switch where it arrives at SHUT (R73, R81, R86). -/
theorem Lane.houseSample_lane_eq (outs : Vector Frame 6) (l : Lane) : (l.houseSample outs).1 =
    if l.fader.arrivesShut l.fader.step then Lane.completeSwitch { l with fader := l.fader.step }
    else { l with fader := l.fader.step } := by
  simp only [Lane.houseSample]

/-- Settles O7: the lane's stage, whose pending switch completes exactly at an arrival at SHUT. -/
theorem houseSampleLanes : Obligations.HouseSampleLanes := by
  intro s₀ s
  refine ⟨houseSample s, rfl, fun l => ?_⟩
  intro a
  have lane : (Machine.houseSample s).lanes[l] =
      if a.fader.arrivesShut a.fader.step then Lane.completeSwitch { a with fader := a.fader.step }
      else { a with fader := a.fader.step } := (houseSample_lane s l).trans (Lane.houseSample_lane_eq _ _)
  rw [lane]
  cases hp : a.pendingSwitch with
  | none =>
    dsimp only
    rw [Lane.completeSwitch_of_none rfl, ite_self]
  | some w =>
    dsimp only
    simp only [← Fader.arrivesShut_iff]
    split
    next arrives => exact Lane.completeSwitch_of_shut rfl (Fader.step_of_arrives arrives)
    next => rfl

end Sys2Proof.Machine
end

section
/-! SUPPORT. The level law of the 118 faders, kept by every operation of the part, and so by every step. -/

namespace Sys2Proof.Machine

/-! ## The fader of one port -/

section
variable {p : Port} (h : p.fader.Law)
include h

/-- A port that leaves LOCKED closes its fader, and any other keeps it (R29, R64). -/
theorem Port.enter_fader_law (st : PortState) : (p.enter st).fader.Law := by
  rw [Port.enter_eq]
  dsimp only
  split
  · exact h.giveShut
  · exact h

/-- A rate fault (R27, R41). -/
theorem Port.rateFaulted_fader_law (sMeas : Nat) : (p.rateFaulted sMeas).fader.Law :=
  Port.enter_fader_law
    (p := { p with tracker := { p.tracker with sMeas := sMeas }, rateFaults := countUp max16 p.rateFaults }) h .hunt

theorem Port.setup_fader_law (enable : Bool) (rate : IngressRate) (latency window : Nat) :
    (p.setup enable rate latency window).fader.Law := by
  have entered (st : PortState) := Port.enter_fader_law (p := p.configure enable rate latency window) h st
  rw [Port.setup_eq]
  dsimp only
  split
  · exact entered .off
  split
  · exact h
  split
  · exact entered .hunt
  split
  · exact h
  · exact entered .hunt

theorem Port.resync_fader_law (before : PortState) : (p.resync before).fader.Law := by
  unfold Port.resync
  split <;> exact h

theorem Port.rateChanged_fader_law : p.rateChanged.fader.Law := by
  unfold Port.rateChanged
  split
  · exact Port.enter_fader_law h .hunt
  · exact h

theorem Port.notice_fader_law : p.notice.fader.Law := by
  unfold Port.notice
  split <;> exact h

/-- A port that locks gives its fader the target OPEN (R28). -/
theorem Port.seed_fader_law (s0 sMeas : Nat) (capture : Word32) : (p.seed s0 sMeas capture).fader.Law := by
  simp only [Port.seed]
  split
  · exact h
  · exact h.giveOpen

theorem Port.onShut_fader_law : p.onShut.1.fader.Law := by
  unfold Port.onShut
  split
  · split
    · exact h.giveOpen
    · exact h
  · exact h

theorem Port.hardSlip_fader_law : p.hardSlip.fader.Law := by
  rw [Port.hardSlip_eq]
  dsimp only
  split
  · exact h.giveOpen
  · exact h

theorem Port.bands_fader_law : p.bands.1.fader.Law := by
  have pending : p.setSlipPending.fader.Law := h.giveShut
  simp only [Port.bands]
  split
  · exact Port.hardSlip_fader_law h
  split
  · split
    · exact Port.onShut_fader_law pending
    · exact pending
  · exact h

theorem Port.resample_fader_law : p.resample.1.fader.Law := by
  unfold Port.resample
  split
  · exact Port.bands_fader_law (p := p.advanced) h
  · exact h

theorem Port.houseSample_fader_law : p.houseSample.port.fader.Law := by
  have stepped := (Port.resample_fader_law h).step
  rw [Port.houseSample_port]
  simp only [Port.stepFader]
  split
  · exact Port.onShut_fader_law (p := { p.resample.1 with fader := p.resample.1.fader.step }) stepped
  · exact stepped

end

/-! ## The fader of one lane -/

section
variable {l : Lane} (h : l.fader.Law)
include h

theorem Lane.completeSwitch_fader_law : l.completeSwitch.fader.Law := by
  unfold Lane.completeSwitch
  split
  · exact h
  · exact h.give _

theorem Lane.retarget_fader_law : l.retarget.fader.Law := by
  have given : (l.fader.give l.wantsOpen).Law := h.give _
  simp only [Lane.retarget]
  split
  · exact Lane.completeSwitch_fader_law (l := { l with fader := l.fader.give l.wantsOpen }) given
  · exact given

theorem Lane.evaluate_fader_law (ports : Vector Port 6) : (l.evaluate ports).1.fader.Law := by
  have pending (w : Option Which) := Lane.retarget_fader_law (l := { l with pendingSwitch := w }) h
  unfold Lane.evaluate
  split
  · split
    · split
      · exact pending _
      · exact h
    · split
      · exact h
      · exact pending _
  · exact h

theorem Lane.houseSample_fader_law (outs : Vector Frame 6) : (l.houseSample outs).1.fader.Law := by
  simp only [Lane.houseSample]
  split
  · exact Lane.completeSwitch_fader_law (l := { l with fader := l.fader.step }) h.step
  · exact h.step

end

theorem Fader.atReset_law : Fader.atReset.Law := by decide

/-! ## The fader of one line -/

section
variable {l : Line} (h : l.fader.Law)
include h

theorem Line.setup_fader_law (trim delay : Nat) : (l.setup trim delay).fader.Law := by
  unfold Line.setup
  split <;> exact h

theorem Line.setMute_fader_law (op : OpState) (mute : Bool) : (l.setMute op mute).fader.Law := h.give _

end

/-! ## The faders, through the operations of the part -/

/-- The law of R70 for all 118 faders, bank by bank. -/
structure FadersLawful (s : State) : Prop where
  port : ∀ k : Fin 6, s.ports[k].fader.Law
  lane : ∀ n : Fin 48, s.lanes[n].fader.Law
  line : ∀ n : Fin 64, s.lines[n].fader.Law

theorem faderLaw_iff {s : State} : FaderLaw s ↔ FadersLawful s :=
  ⟨fun ⟨port, lane, line⟩ => ⟨port, lane, line⟩, fun ⟨port, lane, line⟩ => ⟨port, lane, line⟩⟩

section
variable {s t : State}

theorem FadersLawful.of_same (hs : FadersLawful s) (ports : t.ports = s.ports) (lanes : t.lanes = s.lanes)
    (lines : t.lines = s.lines) : FadersLawful t :=
  ⟨ports ▸ hs.port, lanes ▸ hs.lane, lines ▸ hs.line⟩

theorem FadersLawful.of_mapPorts (hs : FadersLawful s) {f : Port → Port} (ports : t.ports = mapAll s.ports f)
    (lanes : t.lanes = s.lanes) (lines : t.lines = s.lines) (hf : ∀ p : Port, p.fader.Law → (f p).fader.Law) :
    FadersLawful t := by
  refine ⟨fun k => ?_, fun n => lanes ▸ hs.lane n, fun n => lines ▸ hs.line n⟩
  rw [ports, Fin.getElem_fin, getElem_mapAll]
  exact hf _ (hs.port k)

theorem FadersLawful.of_mapLines (hs : FadersLawful s) {f : Line → Line} (ports : t.ports = s.ports)
    (lanes : t.lanes = s.lanes) (lines : t.lines = mapAll s.lines f)
    (hf : ∀ l : Line, l.fader.Law → (f l).fader.Law) : FadersLawful t := by
  refine ⟨fun k => ports ▸ hs.port k, fun n => lanes ▸ hs.lane n, fun n => ?_⟩
  rw [lines, Fin.getElem_fin, getElem_mapAll]
  exact hf _ (hs.line n)

/-- One member of a bank changes. -/
theorem forall_set {α : Type} {n : Nat} {P : α → Prop} {v : Vector α n} (hv : ∀ i : Fin n, P v[i]) (k : Fin n) {a : α}
    (ha : P a) (i : Fin n) : P (v.set k a)[i] := by
  by_cases hi : i = k
  · rwa [hi, getElem_set_self]
  · rw [getElem_set_of_ne _ hi]
    exact hv i

theorem FadersLawful.raise (hs : FadersLawful s) (c : Cond) (items : BitVec 64) : FadersLawful (s.raise c items) :=
  hs.of_same rfl rfl rfl

theorem FadersLawful.withHcu (hs : FadersLawful s) (h : Hcu) : FadersLawful (s.withHcu h) :=
  hs.of_same rfl rfl rfl

theorem FadersLawful.raiseIf (hs : FadersLawful s) (on : Bool) (c : Cond) (items : BitVec 64) :
    FadersLawful (s.raiseIf on c items) :=
  hs.of_same (State.raiseIf_ports s on c items) (State.raiseIf_lanes s on c items) (State.raiseIf_lines s on c items)

/-- A lane where some lanes evaluate (R83). -/
theorem evaluateLanes_lane (which : Fin 48 → Bool) (s : State) (n : Fin 48) :
    (evaluateLanes which s).lanes[n] = if which n then (s.lanes[n].evaluate s.ports).1 else s.lanes[n] := by
  simp only [evaluateLanes, State.raiseSet_lanes, Fin.getElem_fin, getElem_mapAll, Vector.getElem_ofFn]
  split <;> rfl

theorem evaluateLanes_fadersLawful (hs : FadersLawful s) (which : Fin 48 → Bool) :
    FadersLawful (evaluateLanes which s) := by
  refine ⟨fun k => ?_, fun n => ?_, fun n => ?_⟩
  · rw [evaluateLanes_ports]
    exact hs.port k
  · rw [evaluateLanes_lane]
    split
    · exact Lane.evaluate_fader_law (hs.lane n) _
    · exact hs.lane n
  · rw [evaluateLanes_lines]
    exact hs.line n

theorem FadersLawful.withPorts (hs : FadersLawful s) {ports : Vector Port 6} (hp : ∀ k : Fin 6, ports[k].fader.Law) :
    FadersLawful (s.withPorts ports) := by
  have moved : FadersLawful { s with ports := ports } := ⟨hp, hs.lane, hs.line⟩
  simp only [State.withPorts]
  split
  · exact evaluateLanes_fadersLawful moved _
  · exact moved

theorem FadersLawful.withPort (hs : FadersLawful s) (k : Fin 6) {p : Port} (hp : p.fader.Law) :
    FadersLawful (s.withPort k p) :=
  hs.withPorts (forall_set (P := fun p : Port => p.fader.Law) hs.port k hp)

theorem FadersLawful.withLane (hs : FadersLawful s) (n : Fin 48) {l : Lane} (hl : l.fader.Law) :
    FadersLawful (s.withLane n l) :=
  ⟨hs.port, forall_set (P := fun l : Lane => l.fader.Law) hs.lane n hl, hs.line⟩

theorem FadersLawful.withLine (hs : FadersLawful s) (n : Fin 64) {l : Line} (hl : l.fader.Law) :
    FadersLawful (s.withLine n l) :=
  ⟨hs.port, hs.lane, forall_set (P := fun l : Line => l.fader.Law) hs.line n hl⟩

theorem FadersLawful.withReceiver (hs : FadersLawful s) (k : Fin 6) (r : Receiver) :
    FadersLawful (s.withReceiver k r) :=
  ⟨forall_set (P := fun p : Port => p.fader.Law) hs.port k (a := { s.ports[k] with receiver := r }) (hs.port k),
    hs.lane, hs.line⟩

theorem FadersLawful.withOp (hs : FadersLawful s) (op : OpState) : FadersLawful (s.withOp op) :=
  hs.of_mapLines (State.withOp_ports s op) (State.withOp_lanes s op) (State.withOp_lines s op) fun _ hl => hl.give _

/-! ### The events -/

theorem houseSample_fadersLawful (hs : FadersLawful s) : FadersLawful (houseSample s) := by
  refine ⟨fun k => ?_, fun n => ?_, fun n => ?_⟩
  · rw [houseSample_ports]
    rw [Fin.getElem_fin, getElem_mapAll]
    exact Port.houseSample_fader_law (hs.port k)
  · rw [houseSample_lane]
    exact Lane.houseSample_fader_law (hs.lane n) _
  · rw [houseSample_line_fader]
    exact (hs.line n).step

theorem loss_fadersLawful (hs : FadersLawful s) (k : Fin 6) : FadersLawful (loss k s) :=
  (hs.withPort k (Port.enter_fader_law (p := { s.ports[k] with losses := countUp max16 s.ports[k].losses })
    (hs.port k) .hunt)).raise _ _

theorem seedingEntry_fadersLawful (hs : FadersLawful s) (k : Fin 6) : FadersLawful (seedingEntry k s) := by
  simp only [seedingEntry]
  split
  · exact hs.withPort k (by exact hs.port k)
  · exact hs

theorem windowComplete_fadersLawful (hs : FadersLawful s) (k : Fin 6) : FadersLawful (windowComplete k s) := by
  have held := hs.port k
  simp only [windowComplete]
  split
  · split
    · split
      · exact (hs.withPort k (Port.rateFaulted_fader_law held _)).raise _ _
      split
      · exact hs.withPort k (Port.seed_fader_law held _ _ _)
      · exact hs.withPort k (by exact held)
    · exact hs
  · exact hs

theorem Port.writeArrival_fader (c : FrameClass) (samples : Frame) (p : Port) :
    (p.writeArrival c samples).fader = p.fader := by
  rw [Port.writeArrival_eq]

theorem arrivalAfterScore_fadersLawful (hs : FadersLawful s) (k : Fin 6) (capture : Word32) (c : FrameClass)
    (samples : Frame) : FadersLawful (arrivalAfterScore k capture c samples s) := by
  have held := hs.port k
  simp only [arrivalAfterScore]
  split
  · exact seedingEntry_fadersLawful (hs.withPort k (by exact held)) k
  · exact windowComplete_fadersLawful (hs.withPort k (by rwa [Port.writeArrival_fader])) k

theorem Port.scored_fader (c : FrameClass) (p : Port) : (p.scoreFrame c).judgeDegraded.fader = p.fader := by
  cases c <;> rfl

theorem portArrival_fadersLawful (hs : FadersLawful s) (k : Fin 6) (capture : Word32) (body : List Byte) :
    FadersLawful (portArrival k capture body s) := by
  cases handled : s.ports[k].state.handles with
  | false => simpa only [portArrival, handled, Bool.false_eq_true, if_false] using hs
  | true =>
    obtain ⟨q, hq⟩ : ∃ q, ({ s.ports[k] with lastCapture := some capture }.scoreFrame
        (s.ports[k].classify body)).judgeDegraded = q := ⟨_, rfl⟩
    have scored : q.fader.Law := by
      rw [← hq, Port.scored_fader]
      exact hs.port k
    have warned := (hs.withPort k scored).raiseIf (warns s.ports[k] q) .portWarn (portBit k)
    rw [portArrival_of_handles handled rfl hq rfl]
    split
    · exact (warned.withPort k (Port.enter_fader_law scored .barred)).raise _ _
    · exact arrivalAfterScore_fadersLawful warned k _ _ _

theorem arrivalAtShut_fadersLawful (hs : FadersLawful s) (f : FaderId) : FadersLawful (arrivalAtShut f s) := by
  cases f with
  | port k =>
    simp only [arrivalAtShut]
    split
    · exact (hs.withPort k (Port.onShut_fader_law (hs.port k))).raiseIf _ _ _
    · exact hs
  | lane n =>
    simp only [arrivalAtShut]
    split
    · exact hs.withLane n (Lane.completeSwitch_fader_law (hs.lane n))
    · exact hs
  | line n => exact hs

theorem fadersLawful_keptByEvents : KeptByEvents FadersLawful where
  ownFields _ _ _ hs := hs.of_same rfl rfl rfl
  withHcu h _ _ hs := hs.withHcu h
  raise c items _ hs := hs.raise c items
  restartNotice _ hs := hs.of_mapPorts rfl rfl rfl fun _ hp => Port.notice_fader_law hp
  houseSample _ hs := houseSample_fadersLawful hs
  loss k _ _ hs := loss_fadersLawful hs k
  withReceiver k r _ hs := hs.withReceiver k r
  portArrival k capture body _ hs := portArrival_fadersLawful hs k capture body
  windowComplete k _ hs := windowComplete_fadersLawful hs k
  seedingEntry k _ hs := seedingEntry_fadersLawful hs k
  arrivalAtShut f _ hs := arrivalAtShut_fadersLawful hs f
  activateLane n s hs := hs.of_same (activateLane_ports s n) (activateLane_lanes s n) (activateLane_lines s n)
  completeCue i s hs := hs.of_same (completeCue_ports s i) (completeCue_lanes s i) (completeCue_lines s i)
  pinReset _ _ := faderLaw_iff.mp reset_faderLaw

/-! ### The requests -/

/-- Only the requests of chapter 6, and those that can change a port's rank, change a lane's record. -/
def changesLanes : Request → Bool
  | .clockRate _ => true
  | .clockSource _ => true
  | .portSetup _ _ _ _ _ => true
  | .portAccept _ _ _ => true
  | .portRevive _ => true
  | .laneBind _ _ _ _ => true
  | .laneSelect _ _ => true
  | .laneMute _ _ => true
  | _ => false

theorem take_lanes {q : Request} (hq : changesLanes q = false) (s : State) : (take q s).1.lanes = s.lanes := by
  cases q with
  | clockRate | clockSource | portSetup | portAccept | portRevive | laneBind | laneSelect | laneMute => cases hq
  | identify | status | restart | countersClear | clockQuery | cueSurvey | conditionSurvey | unknown | malformed => rfl
  | cueAbortAll => simp [take, takeCueAbortAll]
  | portQuery => simp only [take, takePortQuery]; split <;> rfl
  | laneQuery => simp only [take, takeLaneQuery]; split <;> rfl
  | routeQuery => simp only [take, takeRouteQuery]; split <;> rfl
  | cueQuery => simp only [take, takeCueQuery]; split <;> rfl
  | lineQuery => simp only [take, takeLineQuery]; split <;> rfl
  | conditionTake => simp only [take, takeConditionTake]; split <;> rfl
  | conditionRelease => simp only [take, takeConditionRelease]; split <;> rfl
  | conditionMask => simp only [take, takeConditionMask]; split <;> rfl
  | conditionClear => simp only [take, takeConditionClear]; split <;> rfl
  | go => simp only [take, takeGo]; split <;> simp
  | halt => simp only [take, takeHalt]; split <;> simp
  | routeWrite =>
    simp only [take, takeRouteWrite]; repeat' split
    all_goals simp
  | cueLoad =>
    simp only [take, takeCueLoad]; repeat' split
    all_goals simp
  | cueAbort =>
    simp only [take, takeCueAbort]; repeat' split
    all_goals simp
  | lineSetup =>
    simp only [take, takeLineSetup]; repeat' split
    all_goals simp
  | lineMute =>
    simp only [take, takeLineMute]; repeat' split
    all_goals simp

theorem takeGo_fadersLawful (hs : FadersLawful s) : FadersLawful (takeGo s).1 := by
  unfold takeGo
  cases s.op with
  | config => exact hs.withOp .starting
  | _ => exact hs

theorem takeHalt_fadersLawful (hs : FadersLawful s) : FadersLawful (takeHalt s).1 := by
  unfold takeHalt
  cases s.op with
  | starting => exact hs.withOp .stopping
  | run => exact hs.withOp .stopping
  | _ => exact hs

theorem takeCountersClear_fadersLawful (hs : FadersLawful s) : FadersLawful (takeCountersClear s).1 :=
  FadersLawful.of_mapLines (s := { s with ports := mapAll s.ports Port.clearCounters })
    (f := fun l => { l with clips := 0 }) (hs.of_mapPorts (f := Port.clearCounters) rfl rfl rfl fun _ hp => hp)
    rfl rfl rfl fun _ hl => hl

theorem takeClockRate_fadersLawful (hs : FadersLawful s) (code : Byte) : FadersLawful (takeClockRate code s).1 := by
  have moved : FadersLawful (s.withPorts (mapAll s.ports Port.rateChanged)) := hs.withPorts fun k => by
    rw [Fin.getElem_fin, getElem_mapAll]
    exact Port.rateChanged_fader_law (hs.port k)
  unfold takeClockRate
  split
  · exact hs
  split
  · exact hs
  next r _ =>
    split
    · exact hs
    · have changed : FadersLawful ((s.withPorts (mapAll s.ports Port.rateChanged)).withHcu (s.hcu.changeRate r)) :=
        moved.withHcu _
      refine fadersLawful_keptByEvents.settle ?_
      split
      · exact changed
      · exact fadersLawful_keptByEvents.restartNotice _ changed

theorem takeClockSource_fadersLawful (hs : FadersLawful s) (code : Byte) : FadersLawful (takeClockSource code s).1 := by
  unfold takeClockSource
  split
  · exact hs
  split
  · exact hs
  split
  · dsimp only
    split
    · exact hs.withHcu _
    · exact fadersLawful_keptByEvents.settle (fadersLawful_keptByEvents.restartNotice _ (hs.withHcu _))
  · exact hs.withHcu _

theorem takePortSetup_fadersLawful (hs : FadersLawful s) (port enable rate latency window : Byte) :
    FadersLawful (takePortSetup port enable rate latency window s).1 := by
  unfold takePortSetup
  split
  · exact hs
  split
  next k e r l w _ _ _ _ _ =>
    exact hs.withPort k (Port.resync_fader_law (Port.setup_fader_law (hs.port k) e r l w) _)
  next => exact hs

theorem takePortAccept_fadersLawful (hs : FadersLawful s) (port tag mask : Byte) :
    FadersLawful (takePortAccept port tag mask s).1 := by
  unfold takePortAccept
  split
  next k _ => exact hs.withPort k (p := { s.ports[k] with acceptTag := tag, acceptMask := mask }) (hs.port k)
  next => exact hs

theorem takePortRevive_fadersLawful (hs : FadersLawful s) (port : Byte) : FadersLawful (takePortRevive port s).1 := by
  unfold takePortRevive
  split
  next k _ =>
    have revived := hs.withPort k
      (Port.enter_fader_law (p := { s.ports[k] with score := 0, degraded := false }) (hs.port k) .hunt)
    dsimp only
    split
    · exact revived
    · exact hs
  next => exact hs

theorem takeLaneBind_fadersLawful (hs : FadersLawful s) (lane primary alternate mode : Byte) :
    FadersLawful (takeLaneBind lane primary alternate mode s).1 := by
  unfold takeLaneBind
  split
  · exact hs
  split
  next n p a m _ _ _ _ =>
    split
    · exact hs
    split
    · exact hs
    · dsimp only
      exact evaluateLanes_fadersLawful (hs.withLane n (Lane.retarget_fader_law (by exact hs.lane n))) _
  next => exact hs

theorem takeLaneSelect_fadersLawful (hs : FadersLawful s) (lane choice : Byte) :
    FadersLawful (takeLaneSelect lane choice s).1 := by
  unfold takeLaneSelect
  split
  next n w _ _ =>
    have pending (w : Option Which) := hs.withLane n
      (Lane.retarget_fader_law (l := { s.lanes[n] with pendingSwitch := w }) (hs.lane n))
    dsimp only
    split
    · exact hs
    split
    · exact hs
    split
    · exact pending none
    split
    · exact hs
    · exact pending (some w)
  next => exact hs

theorem takeLaneMute_fadersLawful (hs : FadersLawful s) (lane flag : Byte) :
    FadersLawful (takeLaneMute lane flag s).1 := by
  unfold takeLaneMute
  split
  next n m _ _ =>
    exact hs.withLane n (Lane.retarget_fader_law (l := { s.lanes[n] with mute := m }) (hs.lane n))
  next => exact hs

theorem takeLineSetup_fadersLawful (hs : FadersLawful s) (line : Byte) (trim delay : Word16) :
    FadersLawful (takeLineSetup line trim delay s).1 := by
  unfold takeLineSetup
  split
  · exact hs
  next n _ =>
    dsimp only
    repeat' split
    case isFalse => exact hs.withLine n (Line.setup_fader_law (hs.line n) _ _)
    all_goals exact hs

theorem takeLineMute_fadersLawful (hs : FadersLawful s) (line flag : Byte) :
    FadersLawful (takeLineMute line flag s).1 := by
  unfold takeLineMute
  split
  · exact hs
  next m _ =>
    split
    · exact hs.of_mapLines (f := Line.setMute s.op m) rfl rfl rfl fun _ hl => hl.give _
    split
    next n _ => exact hs.withLine n (Line.setMute_fader_law (hs.line n) _ _)
    next => exact hs

theorem take_fadersLawful (hs : FadersLawful s) (q : Request) : FadersLawful (take q s).1 := by
  cases q with
  | go => exact takeGo_fadersLawful hs
  | halt => exact takeHalt_fadersLawful hs
  | countersClear => exact takeCountersClear_fadersLawful hs
  | clockRate code => exact takeClockRate_fadersLawful hs code
  | clockSource code => exact takeClockSource_fadersLawful hs code
  | portSetup port enable rate latency window => exact takePortSetup_fadersLawful hs port enable rate latency window
  | portAccept port tag mask => exact takePortAccept_fadersLawful hs port tag mask
  | portRevive port => exact takePortRevive_fadersLawful hs port
  | laneBind lane primary alternate mode => exact takeLaneBind_fadersLawful hs lane primary alternate mode
  | laneSelect lane choice => exact takeLaneSelect_fadersLawful hs lane choice
  | laneMute lane flag => exact takeLaneMute_fadersLawful hs lane flag
  | lineSetup line trim delay => exact takeLineSetup_fadersLawful hs line trim delay
  | lineMute line flag => exact takeLineMute_fadersLawful hs line flag
  | _ => exact hs.of_same (take_ports rfl s) (take_lanes rfl s) (take_lines rfl s)

/-- After a Restart every fader is SHUT (R79). -/
theorem executeRestart_fadersLawful (s : State) : FadersLawful (executeRestart s) := by
  refine ⟨fun k => ?_, fun n => ?_, fun n => ?_⟩
  · rw [executeRestart_ports]
    exact Fader.atReset_law
  · rw [executeRestart_lanes]
    exact Fader.atReset_law
  · rw [executeRestart_lines]
    exact Fader.atReset_law

theorem fadersLawful_keptByRequests : KeptByRequests FadersLawful where
  take q _ hs := take_fadersLawful hs q
  restart s _ := executeRestart_fadersLawful s
  withLink _ _ hs := hs.of_same rfl rfl rfl
  linkFault _ _ _ hs := hs.of_same rfl rfl rfl

end

/-- Settles O53: every operation of the part keeps the level law of every fader. -/
theorem stepKeepsFaderLaw : Obligations.StepKeepsFaderLaw := fun _ _ hs ht =>
  faderLaw_iff.mpr (fadersLawful_keptByEvents.step fadersLawful_keptByRequests (faderLaw_iff.mp hs) ht)

end Sys2Proof.Machine
end

section
/-! SUPPORT. ARRIVAL_AT_SHUT and ARRIVAL_AT_OPEN as commands of their own: what each owner of a fader does. -/

namespace Sys2Proof.Machine

/-! ## The owner of a port fader (R58, R65) -/

section
variable {s : State} {k : Fin 6} {n : Fin 48}

/-- A port whose fader stands SHUT acts, with Slip where a soft slip completes (R58, R65, R66). -/
theorem arrivalAtShut_of_port_shut (shut : s.ports[k].fader.state = .shut) :
    arrivalAtShut (.port k) s = (s.withPort k s.ports[k].onShut.1).raiseIf s.ports[k].onShut.2 .slip (portBit k) := by
  simp only [arrivalAtShut, shut, if_true]

theorem Port.onShut_of_not_locked {p : Port} (h : p.state ≠ .locked) :
    p.onShut = ({ p with resampler := { p.resampler with held := Vector.replicate 8 0 } }, false) := by
  simp only [Port.onShut, h, if_false, Frame.zero]

theorem Port.onShut_of_settled {p : Port} (locked : p.state = .locked) (h : p.resampler.slipPending = false) :
    p.onShut = (p, false) := by
  simp only [Port.onShut, locked, h, if_true, Bool.false_eq_true, if_false]

/-- A pending soft slip completes (R58). -/
theorem Port.onShut_of_slip {p : Port} (locked : p.state = .locked) (h : p.resampler.slipPending = true)
    (shut : p.fader.state = .shut) : p.onShut = ({ p with
      fader := ⟨.opening, 0⟩,
      resampler := { p.resampler with
        int := p.written - BitVec.ofNat 32 p.latency, frac := 0, slipPending := false,
        softSlips := min (p.resampler.softSlips + 1) 65535 } }, true) := by
  simp only [Port.onShut, locked, h, if_true, Port.softSlip, Port.recentre, Fader.giveOpen_of_shut shut, countUp, max16]

/-- The port's action at SHUT changes neither its state nor its degraded flag, and so not its rank (R30). -/
theorem Port.onShut_rank (p : Port) : p.onShut.1.rank = p.rank := by
  unfold Port.onShut
  split
  · split <;> rfl
  · rfl

/-- No lane evaluates at a port fader's arrival, for the port's rank stays as it is (R83). -/
theorem arrivalAtShut_port (shut : s.ports[k].fader.state = .shut) {p : Port} {slip : Bool}
    (acts : s.ports[k].onShut = (p, slip)) :
    arrivalAtShut (.port k) s = { s with ports := s.ports.set k p }.raiseIf slip .slip (portBit k) := by
  have rank := s.ports[k].onShut_rank
  rw [arrivalAtShut_of_port_shut shut]
  rw [acts] at rank ⊢
  rw [State.withPort_of_rank_eq rank]

theorem State.set_port_self (k : Fin 6) (s : State) : { s with ports := s.ports.set k s.ports[k] } = s := by
  rw [Fin.getElem_fin, Vector.set_getElem_self]

/-! ## The owner of a lane fader (R86) -/

/-- A lane whose fader stands SHUT completes its pending switch (R86). -/
theorem arrivalAtShut_lane (shut : s.lanes[n].fader.state = .shut) :
    arrivalAtShut (.lane n) s = s.withLane n s.lanes[n].completeSwitch := by
  simp only [arrivalAtShut, shut, if_true]

theorem State.withLane_self (n : Fin 48) (s : State) : s.withLane n s.lanes[n] = s := by
  rw [State.withLane, Fin.getElem_fin, Vector.set_getElem_self]

end

/-- Settles O23: each owner in turn, a port by its state and its slip-pending flag. -/
theorem faderArrivals : Obligations.FaderArrivals := by
  intro s
  refine ⟨fun k shut => ?_, fun l shut => ?_, fun n => rfl, fun f => rfl⟩
  · intro p
    have answers {q : Port} {slip : Bool} (acts : p.onShut = (q, slip)) : exec (.arrivalAtShut (.port k)) s =
        .next ({ s with ports := s.ports.set k q }.raiseIf slip .slip (portBit k)) :=
      congrArg Host.Outcome.next (arrivalAtShut_port shut acts)
    split
    next unlocked => exact answers (Port.onShut_of_not_locked unlocked)
    next locked =>
    have locked : p.state = .locked := not_not.mp locked
    split
    next settled =>
      rw [answers (Port.onShut_of_settled locked settled)]
      exact congrArg _ (State.set_port_self k s)
    next pending => exact answers (Port.onShut_of_slip locked (Bool.not_eq_false _ ▸ pending) shut)
  · refine congrArg Host.Outcome.next ((arrivalAtShut_lane (congrArg Fader.state shut)).trans ?_)
    cases hp : s.lanes[l].pendingSwitch with
    | none => rw [Lane.completeSwitch_of_none hp, State.withLane_self]
    | some w => rw [Lane.completeSwitch_of_shut hp shut]; rfl

end Sys2Proof.Machine
end

section
/-! SUPPORT. From a Go to RUN: the line faders open together, one level at each house sample, and run control's test
finds them OPEN at the 64th. -/

namespace Sys2Proof.Machine

/-! ## The lines and run control at a house sample (R73, R146) -/

section
variable {s : State}

@[simp] theorem mixStage_mute (outs : Vector Sample 48) (n : Nat) (h : n < 64) :
    (mixStage outs s).1.lines[n].mute = s.lines[n].mute := by
  simp only [mixStage, State.raiseSet_lines, Vector.getElem_ofFn, Line.countClip]; split <;> rfl
@[simp] theorem lineStage_mute (mix : Vector Sample 64) (n : Nat) (h : n < 64) :
    (lineStage mix s).1.lines[n].mute = s.lines[n].mute := by
  simp [lineStage, Line.houseSample]

/-- A house sample leaves the mute flags as they are. -/
theorem houseSample_line_mute (s : State) (n : Fin 64) : (houseSample s).lines[n].mute = s.lines[n].mute := by
  simp [houseSample, signalPath]

theorem endSample_line_mute (s : State) (n : Fin 64) : (endSample s).lines[n].mute = s.lines[n].mute := by
  rw [endSample, houseSample_line_mute, timeoutsFirst_lines]

theorem endSample_line_fader (s : State) (n : Fin 64) : (endSample s).lines[n].fader = s.lines[n].fader.step := by
  rw [endSample, houseSample_line_fader, timeoutsFirst_lines]

theorem runTest_op_of_starting (h : s.op = .starting) : (runTest s).op =
    if ∀ n : Fin 64, s.lines[n].mute = true ∨ s.lines[n].fader.state = .opened then .run else .starting := by
  have test : ((indices 64).all fun n => s.lines[n].mute || s.lines[n].fader.state == .opened) = true ↔
      ∀ n : Fin 64, s.lines[n].mute = true ∨ s.lines[n].fader.state = .opened := by
    simp
  simp only [runTest, h, test]
  split
  · rfl
  · exact h

/-- STARTING becomes RUN when every unmuted line fader is OPEN after its step (R146). -/
theorem endSample_op_of_starting (h : s.op = .starting) : (endSample s).op =
    if ∀ n : Fin 64, s.lines[n].mute = true ∨ s.lines[n].fader.step.state = .opened then .run else .starting := by
  have tested {t : State} (op : t.op = .starting) (mute : ∀ n : Fin 64, t.lines[n].mute = s.lines[n].mute)
      (fader : ∀ n : Fin 64, t.lines[n].fader = s.lines[n].fader.step) : (runTest t).op =
      if ∀ n : Fin 64, s.lines[n].mute = true ∨ s.lines[n].fader.step.state = .opened then .run else .starting := by
    simp only [runTest_op_of_starting op, mute, fader]
  simp only [endSample, houseSample, signalPath, egressStage_op]
  exact tested (by simp [h]) (fun n => by simp) (fun n => by simp)

end

/-! ## The opening of the house (R143, R144) -/

/-- Every unmuted line fader is OPENING at level `j`. -/
def OpeningAt (j : Nat) (s : State) : Prop :=
  s.op = .starting ∧ ∀ n : Fin 64, s.lines[n].mute = false → s.lines[n].fader = ⟨.opening, j⟩

section
variable {s : State}

/-- A Go in CONFIG gives every unmuted line fader, all of them SHUT, the target OPEN (R137, R143, R144). -/
theorem openingAt_zero (hl : LineLaw s) (hf : FaderLaw s) (hop : s.op = .config) :
    OpeningAt 0 (s.withOp .starting) := by
  obtain ⟨-, -, closed⟩ := hl
  refine ⟨State.withOp_op s .starting, fun n unmuted => ?_⟩
  have shut : s.lines[n].fader = ⟨.shut, 0⟩ := ((faderLaw_iff.mp hf).line n).eq_of_shut (closed hop n)
  rw [State.withOp_lines, Fin.getElem_fin, getElem_mapAll] at unmuted ⊢
  have unmuted : s.lines[n].mute = false := unmuted
  simp only [Line.retarget, OpState.opens, Fin.getElem_fin] at unmuted shut ⊢
  rw [unmuted, shut]
  rfl

theorem OpeningAt.of_same {j : Nat} {t : State} (h : OpeningAt j s) (op : t.op = s.op) (lines : t.lines = s.lines) :
    OpeningAt j t := by
  rw [OpeningAt, op, lines]
  exact h

/-- One house sample opens the lines by one level, short of the last (R73, R146). -/
theorem OpeningAt.endSample {j : Nat} (h : OpeningAt j s) (some : ∃ n : Fin 64, s.lines[n].mute = false)
    (hj : j < 63) : OpeningAt (j + 1) (endSample s) := by
  obtain ⟨starting, opening⟩ := h
  have steps : Fader.step ⟨.opening, j⟩ = ⟨.opening, j + 1⟩ := by
    simp only [Fader.step, Nat.not_le.mpr hj, if_false]
  refine ⟨?_, fun n unmuted => ?_⟩
  · rw [endSample_op_of_starting starting, if_neg]
    intro opened
    obtain ⟨n, unmuted⟩ := some
    rcases opened n with muted | arrived
    · exact absurd (unmuted.symm.trans muted) Bool.false_ne_true
    · rw [opening n unmuted, steps] at arrived
      cases arrived
  · rw [endSample_line_mute] at unmuted
    rw [endSample_line_fader, opening n unmuted, steps]

/-- The 64th house sample brings every unmuted line to OPEN, and the part to RUN (R73, R146). -/
theorem OpeningAt.endSample_run (h : OpeningAt 63 s) : (Machine.endSample s).op = .run := by
  obtain ⟨starting, opening⟩ := h
  rw [endSample_op_of_starting starting, if_pos]
  intro n
  cases hm : s.lines[n].mute with
  | true => exact .inl rfl
  | false =>
    rw [opening n hm]
    exact .inr rfl

end

/-- Settles O12: the lines are OPENING at level j after j house samples, up to the 63rd. -/
theorem goReachesRun : Obligations.GoReachesRun := by
  intro dest s h hl hf hop some
  have taken : take .go s = (s.withOp .starting, .done) := by simp only [take, takeGo, hop]
  refine ⟨_, exec_answers (c := .go dest) .go h rfl nofun taken, fun u hu hnext => ?_⟩
  have next (j : Nat) : u (j + 1) = endSample (u j) := (Host.Outcome.next.inj (hnext j)).symm
  have muted : ∀ j, ∀ n : Fin 64, (u j).lines[n].mute = s.lines[n].mute := by
    intro j n
    induction j with
    | zero => simp [hu, State.replying, Line.retarget]
    | succ j ih => rw [next, endSample_line_mute, ih]
  have opening : ∀ j ≤ 63, OpeningAt j (u j) := by
    intro j hj
    induction j with
    | zero =>
      rw [hu]
      exact (openingAt_zero hl hf hop).of_same rfl rfl
    | succ j ih =>
      rw [next]
      exact (ih (by omega)).endSample (by simpa only [muted] using some) (by omega)
  refine ⟨fun j hj => ?_, ?_⟩
  · obtain ⟨starting, -⟩ := opening j hj
    exact starting
  · rw [next]
    exact (opening 63 le_rfl).endSample_run

end Sys2Proof.Machine
end

section
/-! SUPPORT. The gains that the mix reads at a house sample are those that the house sample leaves: a ramp that has
ended has brought every leaving entry to gain 0, so its removal changes no gain (R116, R117, R119, R120). -/

namespace Sys2Proof.Machine

/-! ## A list whose ramp ends (R104, R120) -/

/-- A list in ascending line order whose leaving entries stand at gain 0. -/
def RampOver (list : List RouteEntry) : Prop :=
  list.Pairwise (fun a b => a.line < b.line) ∧ ∀ e ∈ list, e.leaving = true → e.gain = 0

theorem gainFor_cons (e : RouteEntry) (list : List RouteEntry) (n : Fin 64) :
    gainFor (e :: list) n = if e.line = n then e.gain else gainFor list n := by
  by_cases h : e.line = n <;> simp [gainFor, h]

/-- A line that the list does not name has gain 0 (R104). -/
theorem gainFor_of_not_named {list : List RouteEntry} {n : Fin 64} (h : ∀ e ∈ list, e.line ≠ n) :
    gainFor list n = 0 := by
  have none : list.find? (fun e => e.line = n) = none := List.find?_eq_none.mpr fun e he => by simpa using h e he
  rw [gainFor, none]

theorem endRamp_cons (e : RouteEntry) (list : List RouteEntry) :
    endRamp (e :: list) = if e.leaving then endRamp list else { e with ramp := none } :: endRamp list := by
  cases h : e.leaving <;> simp [endRamp, h]

theorem mem_endRamp {e : RouteEntry} {list : List RouteEntry} :
    e ∈ endRamp list ↔ ∃ f ∈ list, f.leaving = false ∧ { f with ramp := none } = e := by
  simp [endRamp, and_assoc]

theorem gainFor_endRamp {list : List RouteEntry} (h : RampOver list) (n : Fin 64) :
    gainFor (endRamp list) n = gainFor list n := by
  obtain ⟨ascending, silent⟩ := h
  induction list with
  | nil => rfl
  | cons e list ih =>
    obtain ⟨first, ascending⟩ := List.pairwise_cons.mp ascending
    have rest := ih ascending fun f hf => silent f (List.mem_cons_of_mem e hf)
    rw [endRamp_cons, gainFor_cons]
    split
    next leaves =>
      split
      next named =>
        rw [rest, silent e List.mem_cons_self leaves]
        exact gainFor_of_not_named fun f hf => named ▸ (first f hf).ne'
      next => exact rest
    next => rw [gainFor_cons, rest]

/-- A list whose ramp has ended holds no leaving entry. -/
theorem RampOver.endRamp {list : List RouteEntry} (h : RampOver list) : RampOver (endRamp list) := by
  obtain ⟨ascending, -⟩ := h
  refine ⟨List.pairwise_map.mpr (ascending.filter _), fun e he leaves => ?_⟩
  obtain ⟨f, -, -, rfl⟩ := mem_endRamp.mp he
  cases leaves

/-! ## A list while a cue is ACTIVE on its lane (R116, R117, R119) -/

/-- A list in ascending line order whose gains are those of step k of the cue's ramp, with leaving entries that go to
0. -/
def Ramping (c : Cue) (k : Nat) (list : List RouteEntry) : Prop :=
  list.Pairwise (fun a b => a.line < b.line) ∧
  ∀ e ∈ list, ∀ r, e.ramp = some r → e.gain = stepGain r k c.ramp ∧ (r.leaving = true → r.target = 0)

theorem stepGain_end (r : Ramp) (n : Nat) : stepGain r n n = r.target := by
  unfold stepGain
  split
  · rfl
  · exact rampGain_self _ _ (by omega)

theorem RouteEntry.leaving_iff {e : RouteEntry} : e.leaving = true ↔ ∃ r, e.ramp = some r ∧ r.leaving = true := by
  simp [RouteEntry.leaving, Option.any_eq_true]

/-- At step N the ramp is over (R119, R120). -/
theorem Ramping.rampOver {c : Cue} {list : List RouteEntry} (h : Ramping c c.ramp list) : RampOver list := by
  obtain ⟨ascending, gains⟩ := h
  refine ⟨ascending, fun e he leaves => ?_⟩
  obtain ⟨r, hr, leaving⟩ := RouteEntry.leaving_iff.mp leaves
  obtain ⟨gain, target⟩ := gains e he r hr
  rw [gain, stepGain_end, target leaving]

theorem RouteEntry.rampTo_line (k n : Nat) (e : RouteEntry) : (e.rampTo k n).line = e.line := by
  unfold RouteEntry.rampTo
  split <;> rfl

theorem RouteEntry.rampTo_of_ramp {k n : Nat} {e : RouteEntry} {r : Ramp} (h : (e.rampTo k n).ramp = some r) :
    e.ramp = some r ∧ (e.rampTo k n).gain = rampGain r.start r.target k n := by
  unfold RouteEntry.rampTo at h ⊢
  split at h
  next r' hr =>
    obtain rfl : r' = r := Option.some.inj (hr.symm.trans h)
    exact ⟨hr, rfl⟩
  next hr => exact absurd (hr.symm.trans h) nofun

/-- A ramp step takes every gain to the next step (R119). -/
theorem Ramping.step {c : Cue} {k : Nat} {list : List RouteEntry} (h : Ramping c k list) (hn : c.ramp ≠ 0) :
    Ramping c (k + 1) (list.map (RouteEntry.rampTo (k + 1) c.ramp)) := by
  obtain ⟨ascending, gains⟩ := h
  refine ⟨List.pairwise_map.mpr (by simpa only [RouteEntry.rampTo_line] using ascending), fun e he r hr => ?_⟩
  obtain ⟨f, hf, rfl⟩ := List.mem_map.mp he
  obtain ⟨ramp, gain⟩ := RouteEntry.rampTo_of_ramp hr
  obtain ⟨-, target⟩ := gains f hf r ramp
  exact ⟨by rw [gain, stepGain, if_neg hn], target⟩

/-! ### The union (R116, R117) -/

theorem unionEntry_line {list : List RouteEntry} {targets : List (Fin 64 × Nat)} {n : Fin 64} {e : RouteEntry}
    (h : unionEntry list targets n = some e) : e.line = n := by
  unfold unionEntry at h
  split at h <;> cases h <;> rfl

/-- An entry of the union starts at its gain, and goes to 0 where it leaves (R116). -/
theorem unionEntry_ramp {list : List RouteEntry} {targets : List (Fin 64 × Nat)} {n : Fin 64} {e : RouteEntry}
    (h : unionEntry list targets n = some e) :
    ∃ r, e.ramp = some r ∧ e.gain = r.start ∧ (r.leaving = true → r.target = 0) := by
  unfold unionEntry at h
  split at h <;> cases h <;> exact ⟨_, rfl, rfl, by simp⟩

theorem cueUnion_ascending (list : List RouteEntry) (targets : List (Fin 64 × Nat)) :
    (cueUnion list targets).Pairwise fun a b => a.line < b.line := by
  refine List.pairwise_filterMap.mpr ((List.sortedLT_finRange 64).pairwise.imp ?_)
  intro m n hmn e he f hf
  rwa [unionEntry_line he, unionEntry_line hf]

theorem installed_eq (ramp : Nat) (union : List RouteEntry) :
    installed ramp union = union.map fun e => if ramp = 0 then e.toTarget else e := by
  unfold installed
  split <;> simp_all

theorem RouteEntry.toTarget_of_ramp {e : RouteEntry} {r : Ramp} (h : e.ramp = some r) :
    e.toTarget = { e with gain := r.target } := by
  rw [RouteEntry.toTarget, h]

theorem RouteEntry.toTarget_line (e : RouteEntry) : e.toTarget.line = e.line := by
  unfold RouteEntry.toTarget
  split <;> rfl

/-- The union as it is installed stands at step 0 of its ramp (R117). -/
theorem ramping_installed (c : Cue) (list : List RouteEntry) (targets : List (Fin 64 × Nat)) :
    Ramping c 0 (installed c.ramp (cueUnion list targets)) := by
  rw [installed_eq]
  refine ⟨List.pairwise_map.mpr ((cueUnion_ascending list targets).imp fun {a b} h => ?_), fun e he r hr => ?_⟩
  · split <;> simpa only [RouteEntry.toTarget_line] using h
  · obtain ⟨f, hf, rfl⟩ := List.mem_map.mp he
    obtain ⟨n, -, hn⟩ := List.mem_filterMap.mp hf
    obtain ⟨r', ramp, gain, target⟩ := unionEntry_ramp hn
    rw [RouteEntry.toTarget_of_ramp ramp] at hr ⊢
    by_cases zero : c.ramp = 0
    · simp only [zero, if_true, ramp, Option.some.injEq] at hr ⊢
      exact hr ▸ ⟨rfl, target⟩
    · simp only [zero, if_false, ramp, Option.some.injEq] at hr ⊢
      rw [← hr, stepGain, if_neg zero, rampGain_zero]
      exact ⟨gain, target⟩

/-! ## The cues and the lists of the whole part -/

/-- At most one cue is ACTIVE on a lane, and the list of that lane stands at the cue's step; a cue that is to take a
ramp step has one to take. -/
structure RampsLawful (s : State) : Prop where
  unique : ∀ i j : Fin 32, s.cues[i].rampLane? ≠ none → s.cues[i].rampLane? = s.cues[j].rampLane? → i = j
  ramping : ∀ (i : Fin 32) (c : Cue) (k : Nat) (h : Word32) (late : Nat), s.cues[i] = .active c k h late →
    Ramping c k s.routes[c.lane] ∧ (s.cueTaken[c.lane] = false → c.ramp ≠ 0)

theorem CueSlot.rampLane?_active (c : Cue) (k : Nat) (h : Word32) (late : Nat) :
    (CueSlot.active c k h late).rampLane? = some c.lane := rfl

theorem CueSlot.activeOn_iff {slot : CueSlot} {n : Fin 48} : slot.activeOn n = true ↔ slot.rampLane? = some n := by
  cases slot <;> simp [CueSlot.activeOn, CueSlot.rampLane?, CueSlot.ramping?]

theorem cueActiveOn_eq_false {cues : Vector CueSlot 32} {n : Fin 48} :
    cueActiveOn cues n = false ↔ ∀ i : Fin 32, cues[i].rampLane? ≠ some n := by
  simp [cueActiveOn, List.any_eq_false, CueSlot.activeOn_iff]

theorem RouteLaw.rampsLawful {s : State} (h : RouteLaw s) : RampsLawful s := by
  obtain ⟨lists, -, unique, slots⟩ := h
  refine ⟨unique, fun i c k h late active => ?_⟩
  obtain ⟨-, -, ramping⟩ := slots i
  obtain ⟨⟨le, gains, -⟩, taken⟩ := ramping (c, k) (by simp [active, CueSlot.ramping?])
  obtain ⟨-, ascending, entries⟩ := lists c.lane
  refine ⟨⟨ascending, fun e he r hr => ⟨?_, fun leaving => ?_⟩⟩, fun free => ?_⟩
  · simpa [hr] using gains e he
  · obtain ⟨-, -, fields⟩ := entries e he
    simp only [hr, leaving, Option.all_some, Bool.not_true, Bool.false_or, Bool.and_eq_true, beq_iff_eq] at fields
    obtain ⟨-, target⟩ := fields
    exact target
  · rintro zero
    have now : c.ramp = k := by
      have : k ≤ c.ramp := le
      omega
    exact absurd (free.symm.trans (taken now.symm)) Bool.false_ne_true

/-- One slot and one lane's list change, with no other slot ACTIVE on that lane. -/
theorem RampsLawful.update {s t : State} (hs : RampsLawful s) {i : Fin 32} {n : Fin 48} {slot : CueSlot}
    (cues : t.cues = s.cues.set i slot) (routes : ∀ l, l ≠ n → t.routes[l] = s.routes[l])
    (taken : ∀ l, l ≠ n → t.cueTaken[l] = s.cueTaken[l]) (others : ∀ j, j ≠ i → s.cues[j].rampLane? ≠ some n)
    (own : ∀ l, slot.rampLane? = some l → l = n)
    (ramping : ∀ c k h late, slot = .active c k h late →
      Ramping c k t.routes[n] ∧ (t.cueTaken[n] = false → c.ramp ≠ 0)) : RampsLawful t := by
  have changed : t.cues[i] = slot := by rw [cues, getElem_set_self]
  have kept {j : Fin 32} (hj : j ≠ i) : t.cues[j] = s.cues[j] := by rw [cues, getElem_set_of_ne _ hj]
  have apart {j : Fin 32} (hj : j ≠ i) (active : slot.rampLane? ≠ none) : slot.rampLane? ≠ s.cues[j].rampLane? := by
    intro same
    obtain ⟨l, hl⟩ := Option.ne_none_iff_exists'.mp active
    exact others j hj (by rw [← same, hl, own l hl])
  refine ⟨fun a b active same => ?_, fun j c k h late active => ?_⟩
  · by_cases ha : a = i <;> by_cases hb : b = i
    · rw [ha, hb]
    · rw [ha, changed] at active same
      rw [kept hb] at same
      exact absurd same (apart hb active)
    · rw [hb, changed] at same
      rw [kept ha] at active same
      exact absurd same.symm (apart ha (same ▸ active))
    · rw [kept ha] at active same
      rw [kept hb] at same
      exact hs.unique a b active same
  · by_cases hj : j = i
    · rw [hj, changed] at active
      obtain rfl : c.lane = n := own c.lane (by rw [active]; rfl)
      exact ramping c k h late active
    · rw [kept hj] at active
      have elsewhere : c.lane ≠ n := fun lane => others j hj (by rw [active, CueSlot.rampLane?_active, lane])
      rw [routes _ elsewhere, taken _ elsewhere]
      exact hs.ramping j c k h late active

/-! ### A ramp step (R119) -/

/-- What a slot's ramp step does: nothing, or one step of the ACTIVE cue whose lane has not been taken. -/
theorem rampStep_cases (i : Fin 32) (s : State) : rampStep i s = s ∨
    ∃ c k h late, s.cues[i] = .active c k h late ∧ s.cueTaken[c.lane] = false ∧
      rampStep i s = (s.withRoutes c.lane (s.routes[c.lane].map (RouteEntry.rampTo (k + 1) c.ramp))).withCue i
        (.active c (k + 1) h late) := by
  unfold rampStep
  split
  next c k h late active =>
    split
    next => exact .inl rfl
    next free => exact .inr ⟨c, k, h, late, active, by simpa using free, rfl⟩
  next => exact .inl rfl

theorem RampsLawful.rampStep {s : State} (hs : RampsLawful s) (i : Fin 32) : RampsLawful (rampStep i s) := by
  rcases rampStep_cases i s with same | ⟨c, k, h, late, active, free, stepped⟩
  · rwa [same]
  · obtain ⟨ramping, more⟩ := hs.ramping i c k h late active
    have lane : s.cues[i].rampLane? = some c.lane := by rw [active, CueSlot.rampLane?_active]
    rw [stepped]
    refine hs.update rfl (fun l hl => getElem_set_of_ne _ hl _) (fun _ _ => rfl)
      (fun j hj same => hj (hs.unique i j (lane ▸ nofun) (lane.trans same.symm)).symm)
      (fun l hl => (Option.some.inj hl).symm) ?_
    rintro _ _ _ _ ⟨⟩
    refine ⟨?_, more⟩
    rw [State.withCue_routes, State.withRoutes_routes, getElem_set_self]
    exact ramping.step (more free)

/-! ### An activation (R114 to R118) -/

/-- The winner of a lane is ARMED for it (R114). -/
theorem winner_waits {cues : Vector CueSlot 32} {n : Fin 48} {h : Word32} {i : Fin 32} (hw : winner cues n h = some i) :
    cues[i].waits n h = true := by
  have all : ∀ (l : List (Fin 32)) (best : Option (Fin 32)), (∀ j ∈ best, cues[j].waits n h = true) →
      ∀ j ∈ l.foldl (fun best i =>
        if cues[i].waits n h then
          match best with
          | none => some i
          | some b => if cues[i].priority < cues[b].priority then some i else some b
        else best) best, cues[j].waits n h = true := by
    intro l
    induction l with
    | nil => exact fun _ hb => hb
    | cons a l ih =>
      intro best hb
      rw [List.foldl_cons]
      refine ih _ ?_
      split
      next waits =>
        split
        · rintro _ ⟨⟩
          exact waits
        next b =>
          split
          · rintro _ ⟨⟩
            exact waits
          · exact hb
      next => exact hb
  exact all (indices 32) none nofun i hw

theorem CueSlot.lane_of_waits {n : Fin 48} {h : Word32} {c : Cue} (hw : (CueSlot.armed c).waits n h = true) :
    c.lane = n := by
  simp only [CueSlot.waits, Bool.and_eq_true, decide_eq_true_eq] at hw
  obtain ⟨lane, -⟩ := hw
  exact lane

/-- What a lane's activation does: nothing, or it runs a slot ARMED for the lane, on which no cue is ACTIVE (R114,
R117). -/
theorem activateLane_cases (n : Fin 48) (s : State) : activateLane n s = s ∨
    ∃ (i : Fin 32) (c : Cue), s.cues[i] = .armed c ∧ c.lane = n ∧ (∀ j : Fin 32, s.cues[j].rampLane? ≠ some n) ∧
      activateLane n s = runWinner i c s.hcu.count { s with cueTaken := s.cueTaken.set n true } := by
  unfold activateLane
  split
  next => exact .inl rfl
  next free =>
    simp only [Bool.or_eq_true, not_or, Bool.not_eq_true] at free
    obtain ⟨idle, -⟩ := free
    split
    next => exact .inl rfl
    next i hw =>
      have waits := winner_waits hw
      split
      next c armed =>
        rw [armed] at waits
        exact .inr ⟨i, c, armed, CueSlot.lane_of_waits waits, cueActiveOn_eq_false.mp idle, rfl⟩
      next => exact .inl rfl

/-- What becomes of a winner: its slot is ACTIVE on the installed union, or SPENT (R116 to R118). -/
theorem runWinner_cases (i : Fin 32) (c : Cue) (h : Word32) (s : State) : ∃ slot,
    (runWinner i c h s).cues = s.cues.set i slot ∧
    (∀ l, l ≠ c.lane → (runWinner i c h s).routes[l] = s.routes[l]) ∧
    (slot.rampLane? = none ∨ slot = .active c 0 h (lateness h c.due) ∧
      (runWinner i c h s).routes[c.lane] = installed c.ramp (cueUnion s.routes[c.lane] c.targets)) := by
  simp only [runWinner]
  split
  · exact ⟨_, rfl, fun l hl => getElem_set_of_ne _ hl _, .inr ⟨rfl, getElem_set_self _ _ _⟩⟩
  split
  · exact ⟨_, rfl, fun l hl => getElem_set_of_ne _ hl _, .inl rfl⟩
  · exact ⟨_, rfl, fun _ _ => rfl, .inl rfl⟩

theorem RampsLawful.activateLane {s : State} (hs : RampsLawful s) (n : Fin 48) : RampsLawful (activateLane n s) := by
  rcases activateLane_cases n s with same | ⟨i, c, -, rfl, free, ran⟩
  · rwa [same]
  · obtain ⟨slot, cues, routes, made⟩ :=
      runWinner_cases i c s.hcu.count { s with cueTaken := s.cueTaken.set c.lane true }
    rw [ran]
    refine hs.update cues routes (fun l hl => ?_) (fun j _ => free j) (fun l hl => ?_) fun c' k h late active => ?_
    · rw [runWinner_cueTaken]
      exact getElem_set_of_ne _ hl _
    · rcases made with spent | ⟨rfl, -⟩
      · rw [spent] at hl
        cases hl
      · exact (Option.some.inj hl).symm
    · rcases made with spent | ⟨rfl, union⟩
      · rw [active] at spent
        cases spent
      · cases active
        rw [union, runWinner_cueTaken]
        refine ⟨ramping_installed c _ _, fun untaken => ?_⟩
        rw [getElem_set_self] at untaken
        cases untaken

/-- The cue table's stage keeps the lists at their cues' steps. -/
theorem RampsLawful.cueStage {s : State} (hs : RampsLawful s) : RampsLawful (cueStage s) :=
  foldl_kept (P := RampsLawful) (fun _ n ht => ht.activateLane n) (indices 48)
    (foldl_kept (P := RampsLawful) (fun _ i ht => ht.rampStep i) (indices 32) hs)

/-! ### The completions (R120) -/

/-- Where a cue has reached step N, its lane's ramp is over. -/
def EndsSilent (s : State) : Prop :=
  ∀ (i : Fin 32) (c : Cue) (h : Word32) (late : Nat), s.cues[i] = .active c c.ramp h late → RampOver s.routes[c.lane]

theorem RampsLawful.endsSilent {s : State} (hs : RampsLawful s) : EndsSilent s := fun i c h late active => by
  obtain ⟨ramping, -⟩ := hs.ramping i c c.ramp h late active
  exact ramping.rampOver

/-- What a completion does: nothing, or it ends the ramp of a cue that has reached step N (R120). -/
theorem completeCue_cases (i : Fin 32) (s : State) : completeCue i s = s ∨
    ∃ c h late, s.cues[i] = .active c c.ramp h late ∧
      completeCue i s = ((s.withRoutes c.lane (endRamp s.routes[c.lane])).withCue i
        (.spent c .completed late (some h))).raise .cueDone (slotBit i) := by
  unfold completeCue
  split
  next c k h late active =>
    split
    next ended =>
      subst ended
      exact .inr ⟨c, h, late, active, rfl⟩
    next => exact .inl rfl
  next => exact .inl rfl

/-- A completion keeps every gain that the mix reads. -/
theorem completeCue_gains {s : State} (hs : EndsSilent s) (i : Fin 32) : EndsSilent (completeCue i s) ∧
    ∀ (l : Fin 48) (n : Fin 64), gainFor (completeCue i s).routes[l] n = gainFor s.routes[l] n := by
  rcases completeCue_cases i s with same | ⟨c, h, late, active, completed⟩
  · rw [same]
    exact ⟨hs, fun _ _ => rfl⟩
  · have silent := hs i c h late active
    have routes (l : Fin 48) : (completeCue i s).routes[l] =
        if l = c.lane then endRamp s.routes[l] else s.routes[l] := by
      rw [completed, State.raise_routes, State.withCue_routes, State.withRoutes_routes]
      split
      next hl => rw [hl, getElem_set_self]
      next hl => exact getElem_set_of_ne _ hl _
    refine ⟨fun j c' h' late' active' => ?_, fun l n => ?_⟩
    · have hj : j ≠ i := by
        rintro rfl
        rw [completed, State.raise_cues, State.withCue_cues, getElem_set_self] at active'
        cases active'
      rw [completed, State.raise_cues, State.withCue_cues, getElem_set_of_ne _ hj] at active'
      have silent' := hs j c' h' late' active'
      rw [routes]
      split
      · exact silent'.endRamp
      · exact silent'
    · rw [routes]
      split
      next hl => exact gainFor_endRamp (hl ▸ silent) n
      next => rfl

theorem completionStage_gains {s : State} (hs : EndsSilent s) (l : Fin 48) (n : Fin 64) :
    gainFor (completionStage s).routes[l] n = gainFor s.routes[l] n := by
  have kept : EndsSilent ((indices 32).foldl (fun t i => completeCue i t) s) ∧ ∀ (l : Fin 48) (n : Fin 64),
      gainFor ((indices 32).foldl (fun t i => completeCue i t) s).routes[l] n = gainFor s.routes[l] n := by
    refine foldl_kept
      (P := fun t => EndsSilent t ∧ ∀ (l : Fin 48) (n : Fin 64), gainFor t.routes[l] n = gainFor s.routes[l] n)
      (fun t i ht => ?_) _ ⟨hs, fun _ _ => rfl⟩
    obtain ⟨ends, gains⟩ := ht
    obtain ⟨ends', gains'⟩ := completeCue_gains ends i
    exact ⟨ends', fun l n => (gains' l n).trans (gains l n)⟩
  obtain ⟨-, gains⟩ := kept
  simp only [completionStage]
  exact gains l n

end Sys2Proof.Machine
end

section
/-! SUPPORT. The audio of one house sample, stage by stage: what the ports and lanes give out, in terms of the faders
that the house sample leaves; the mix; and what the lines hold, count and give out. -/

namespace Sys2Proof.Machine

/-! ## The outputs of ports and lanes (R63, R74, R81) -/

theorem Port.onShut_level {p : Port} (h : p.fader = ⟨.shut, 0⟩) : p.onShut.1.fader.level = 0 := by
  unfold Port.onShut
  split
  · split
    · simp only [Port.softSlip, Port.recentre, h, Fader.giveOpen]
    · rw [h]
  · simp only [h]

theorem Port.houseSample_outs_eq (p : Port) :
    p.houseSample.outs = mapAll p.resample.1.resampler.held (scale p.resample.1.fader.step.level) := by
  simp only [Port.houseSample]
  split <;> rfl

/-- At an arrival at SHUT the port's level is 0, whatever the port then does, and so no held output is heard (R74). -/
theorem Port.stepFader_scale (p : Port) (t : Fin 8) : scale p.stepFader.1.fader.level p.stepFader.1.resampler.held[t] =
    scale p.fader.step.level p.resampler.held[t] := by
  by_cases arrives : p.fader.arrivesShut p.fader.step = true
  · have shut := Fader.step_of_arrives arrives
    have silent : p.stepFader.1.fader.level = 0 := by
      rw [Port.stepFader, if_pos arrives]
      exact Port.onShut_level shut
    rw [silent, shut, scale_zero, scale_zero]
  · rw [Port.stepFader, if_neg arrives]

/-- A port gives out its held outputs at the level that its fader is left at (R63, R74). -/
theorem Port.houseSample_outs (p : Port) (t : Fin 8) :
    p.houseSample.outs[t] = scale p.houseSample.port.fader.level p.houseSample.port.resampler.held[t] := by
  rw [Port.houseSample_outs_eq, Port.houseSample_port, Port.stepFader_scale, Fin.getElem_fin, getElem_mapAll]
  rfl

theorem houseSample_port (s : State) (k : Fin 6) : (houseSample s).ports[k] = s.ports[k].houseSample.port := by
  rw [houseSample_ports, Fin.getElem_fin, getElem_mapAll]
  rfl

theorem Lane.completeSwitch_level {l : Lane} (h : l.fader = ⟨.shut, 0⟩) : l.completeSwitch.fader.level = 0 := by
  cases hp : l.pendingSwitch with
  | none => rw [Lane.completeSwitch_of_none hp, h]
  | some w =>
    rw [Lane.completeSwitch_of_shut hp h]
    dsimp only
    split <;> rfl

theorem Lane.houseSample_level (outs : Vector Frame 6) (l : Lane) :
    (l.houseSample outs).1.fader.level = l.fader.step.level := by
  rw [Lane.houseSample_lane_eq]
  split
  next arrives =>
    have shut := Fader.step_of_arrives arrives
    rw [Lane.completeSwitch_level (l := { l with fader := l.fader.step }) shut, shut]
  next => rfl

/-- A lane gives out the port-slot that it plays, at the level that its fader is left at (R74, R81). -/
theorem Lane.houseSample_out (outs : Vector Frame 6) (l : Lane) : (l.houseSample outs).2 =
    scale (l.houseSample outs).1.fader.level ((l.selected.map fun b => outs[b.port][b.slot]).getD 0) := by
  rw [Lane.houseSample_level]
  simp only [Lane.houseSample]
  cases l.selected <;> rfl

theorem Lane.selected_eq (l : Lane) :
    l.selected = l.selection.bind fun w => if w = .primary then l.primary else l.alternate := by
  have named : l.bindingAt = fun w => if w = .primary then l.primary else l.alternate := by
    funext w
    cases w <;> rfl
  rw [Lane.selected, named]

/-- The 48 lane outputs of a house sample (R81). -/
def laneOuts (s : State) : Vector Sample 48 := (lanesStage (portsStage s).2 (portsStage s).1).2

/-- What a port-slot gives out, by the port that the house sample leaves (R63, R74). -/
def portOut (t : State) (b : Binding) : Int := scale t.ports[b.port].fader.level t.ports[b.port].resampler.held[b.slot]

theorem laneOuts_eq (s : State) (l : Fin 48) : (laneOuts s)[l] =
    scale (houseSample s).lanes[l].fader.level ((s.lanes[l].selected.map (portOut (houseSample s))).getD 0) := by
  have slots : (fun b : Binding => (portsStage s).2[b.port][b.slot]) = portOut (houseSample s) := by
    funext b
    rw [portsStage_outs, Port.houseSample_outs, portOut, houseSample_port]
  rw [laneOuts, lanesStage_out, Lane.houseSample_out, portsStage_lanes, houseSample_lane, slots]

/-! ## The mix (R104 to R106) -/

/-- The state on which the mix of a house sample works. -/
def beforeMix (s : State) : State := cueStage (lanesStage (portsStage s).2 (portsStage s).1).1

/-- A line's exact sum of a house sample, trimmed and rounded but not saturated (R104, R105). -/
def exactMix (s : State) (n : Fin 64) : Int := trimmed (mixSum (beforeMix s).routes (laneOuts s) n) s.lines[n].trim

theorem beforeMix_lines (s : State) : (beforeMix s).lines = s.lines := by
  simp only [beforeMix, cueStage_lines, lanesStage_lines, portsStage_lines]

theorem gainFor_eq (list : List RouteEntry) (n : Fin 64) :
    gainFor list n = ((list.find? fun e => e.line = n).map (·.gain)).getD 0 := by
  unfold gainFor
  cases list.find? fun e => e.line = n <;> rfl

theorem houseSample_routes (s : State) :
    (houseSample s).routes = (completionStage (mixStage (laneOuts s) (beforeMix s)).1).routes := by
  simp only [houseSample, signalPath, egressStage_routes, runTest_routes, lineStage_routes, laneOuts, beforeMix]

/-- The gains of the mix are those of the lists that the house sample leaves (R120). -/
theorem houseSample_gains {s : State} (hs : RouteLaw s) (l : Fin 48) (n : Fin 64) :
    gainFor (houseSample s).routes[l] n = gainFor (beforeMix s).routes[l] n := by
  have lawful : RampsLawful (lanesStage (portsStage s).2 (portsStage s).1).1 := by
    obtain ⟨unique, ramping⟩ := hs.rampsLawful
    constructor <;> simpa only [lanesStage_cues, lanesStage_routes, lanesStage_cueTaken, portsStage_cues,
      portsStage_routes, portsStage_cueTaken]
  have ends : EndsSilent (mixStage (laneOuts s) (beforeMix s)).1 := by
    intro i c h late active
    rw [mixStage_cues] at active
    rw [mixStage_routes]
    exact lawful.cueStage.endsSilent i c h late active
  rw [houseSample_routes, completionStage_gains ends, mixStage_routes]

/-- A line's sum, over the lanes' outputs and the gains that the house sample leaves (R104). -/
theorem mixSum_beforeMix {s : State} (hs : RouteLaw s) (n : Fin 64) : mixSum (beforeMix s).routes (laneOuts s) n =
    ((List.finRange 48).map fun l => (laneOuts s)[l] * (gainFor (houseSample s).routes[l] n : Int)).sum := by
  simp only [houseSample_gains hs]
  rfl

theorem mixStage_value (s : State) (n : Fin 64) :
    (mixStage (laneOuts s) (beforeMix s)).2[n] = saturate (exactMix s n) := by
  simp only [mixStage, exactMix, beforeMix_lines, Fin.getElem_fin, getElem_mapAll, Vector.getElem_ofFn]

theorem mixStage_line_eq (s : State) (n : Fin 64) : (mixStage (laneOuts s) (beforeMix s)).1.lines[n] =
    s.lines[n].countClip (exactMix s n != saturate (exactMix s n)) := by
  simp only [mixStage, exactMix, beforeMix_lines, State.raiseSet_lines, Fin.getElem_fin, Vector.getElem_ofFn]

/-! ## The lines (R106, R107, R132, R134) -/

theorem delayStep_eq (t : Sample) (buffer : List Sample) :
    delayStep t buffer = (buffer.headD t, (buffer ++ [t]).drop 1) := by
  cases buffer <;> rfl

theorem Line.countClip_eq (x : Int) (l : Line) : l.countClip (x != saturate x) =
    { l with clips := if x = saturate x then l.clips else min (l.clips + 1) 65535 } := by
  by_cases h : x = saturate x
  · simp [Line.countClip, ← h]
  · simp [Line.countClip, h, countUp, max16]

/-- A line after a house sample: its delay has taken the mixed value, its fader has stepped, and a saturated value is
counted (R106, R107, R132, R134). -/
theorem houseSample_line (s : State) (n : Fin 64) : (houseSample s).lines[n] = { s.lines[n] with
    buffer := (s.lines[n].buffer ++ [saturate (exactMix s n)]).drop 1,
    fader := s.lines[n].fader.step,
    clips := if exactMix s n = saturate (exactMix s n) then s.lines[n].clips
      else min (s.lines[n].clips + 1) 65535 } := by
  have made : (houseSample s).lines[n] =
      ((mixStage (laneOuts s) (beforeMix s)).1.lines[n].houseSample (mixStage (laneOuts s) (beforeMix s)).2[n]).1 := by
    simp [houseSample, signalPath, lineStage, laneOuts, beforeMix]
  rw [made, mixStage_value, mixStage_line_eq, Line.countClip_eq, Line.houseSample, delayStep_eq]

/-- The final samples of a house sample (R134). -/
def finals (s : State) : Vector Sample 64 :=
  (lineStage (mixStage (laneOuts s) (beforeMix s)).2 (completionStage (mixStage (laneOuts s) (beforeMix s)).1)).2

theorem finals_eq (s : State) (n : Fin 64) : (finals s)[n] =
    scale (houseSample s).lines[n].fader.level (s.lines[n].buffer.headD (saturate (exactMix s n))) := by
  have made : (finals s)[n] =
      ((mixStage (laneOuts s) (beforeMix s)).1.lines[n].houseSample (mixStage (laneOuts s) (beforeMix s)).2[n]).2 := by
    simp [finals, lineStage]
  rw [made, mixStage_value, mixStage_line_eq, Line.countClip_eq, Line.houseSample, delayStep_eq,
    houseSample_line_fader]

/-! ## The egress frames (R135) -/

theorem houseSample_egress (s : State) (k : Fin 8) :
    (houseSample s).egress[k] = egressFrame s.link.address k (finals s) := by
  simp [houseSample, signalPath, egressStage, finals, laneOuts, beforeMix]

/-! ## The conditions (R106, R154) -/

theorem portsStage_keepsCondition {i : Fin 12} (hi : i ≠ Cond.slip.index) (s : State) :
    KeepsCondition i s (portsStage s).1 := by
  have moved : KeepsCondition i s { s with ports := (portsStage s).1.ports } := KeepsCondition.refl i s
  have stage : (portsStage s).1 = State.raiseSet .slip (setBits fun k : Fin 6 => s.ports[k].houseSample.slip)
      { s with ports := (portsStage s).1.ports } := by
    simp [portsStage]
  rw [stage, State.raiseSet, State.raiseIf]
  split
  · exact moved.raise hi _
  · exact moved

/-- Only the ports' stage, the mix, the cue table and run control raise a condition. -/
theorem houseSample_keepsOther {i : Fin 12} (hslip : i ≠ Cond.slip.index) (hclip : i ≠ Cond.clip.index)
    (hcue : i ≠ Cond.cueDone.index) (hstate : i ≠ Cond.stateReached.index) (s : State) :
    (houseSample s).conditions[i] = s.conditions[i] :=
  (portsStage_keepsCondition hslip s).trans (houseSample_keepsCondition hcue hclip hstate s)

theorem Condition.raisedBy_congr {items : Nat → Prop} {before after before' after' : Condition}
    (h : Condition.RaisedBy items before after) (hb : before = before') (ha : after' = after) :
    Condition.RaisedBy items before' after' := by
  subst hb ha
  exact h

/-- The mix raises Clip for exactly the lines whose sum it saturates (R106). -/
theorem mixStage_clip_raisedBy (outs : Vector Sample 48) (u : State) : Condition.RaisedBy
    (fun m => ∃ n : Fin 64, n.val = m ∧ trimmed (mixSum u.routes outs n) u.lines[n].trim ≠
      saturate (trimmed (mixSum u.routes outs n) u.lines[n].trim))
    u.conditions[Cond.clip.index] (mixStage outs u).1.conditions[Cond.clip.index] := by
  have raised := State.raiseSet_raisedBy { u with lines := (mixStage outs u).1.lines } (by decide) .clip
    fun n : Fin 64 => trimmed (mixSum u.routes outs n) u.lines[n].trim !=
      saturate (trimmed (mixSum u.routes outs n) u.lines[n].trim)
  have stage : (mixStage outs u).1 = State.raiseSet .clip
      (setBits fun n : Fin 64 => trimmed (mixSum u.routes outs n) u.lines[n].trim !=
        saturate (trimmed (mixSum u.routes outs n) u.lines[n].trim))
      { u with lines := (mixStage outs u).1.lines } := by
    simp only [mixStage, State.raiseSet_lines, Fin.getElem_fin, Vector.getElem_ofFn]
  rw [stage]
  simpa only [bne_iff_ne] using raised

theorem beforeMix_keepsCondition {i : Fin 12} (hslip : i ≠ Cond.slip.index) (hcue : i ≠ Cond.cueDone.index)
    (s : State) : KeepsCondition i s (beforeMix s) := by
  have lanes (outs : Vector Frame 6) (u : State) : KeepsCondition i u (lanesStage outs u).1 := by
    rw [KeepsCondition, lanesStage_conditions]
  exact ((portsStage_keepsCondition hslip s).trans (lanes _ _)).trans (cueStage_keepsCondition hcue _)

theorem houseSample_keepsMix {i : Fin 12} (hcue : i ≠ Cond.cueDone.index) (hstate : i ≠ Cond.stateReached.index)
    (s : State) : KeepsCondition i (mixStage (laneOuts s) (beforeMix s)).1 (houseSample s) := by
  rw [KeepsCondition]
  simp only [houseSample, signalPath, egressStage_conditions]
  rw [runTest_keepsCondition hstate, lineStage_conditions, completionStage_keepsCondition hcue, laneOuts, beforeMix]

/-- Clip is raised for exactly the lines whose exact sum is saturated (R106). -/
theorem houseSample_clip_raisedBy (s : State) : Condition.RaisedBy
    (fun m => ∃ n : Fin 64, n.val = m ∧ exactMix s n ≠ saturate (exactMix s n))
    s.conditions[Cond.clip.index] (houseSample s).conditions[Cond.clip.index] := by
  have raised := mixStage_clip_raisedBy (laneOuts s) (beforeMix s)
  simp only [beforeMix_lines] at raised
  exact Condition.raisedBy_congr raised (beforeMix_keepsCondition (by decide) (by decide) s)
    (houseSample_keepsMix (by decide) (by decide) s)

/-- The slots of an egress frame, from the final samples of its eight lines (R135). -/
theorem finals_slot {s : State} {value : Fin 64 → Int} (h : ∀ n, (finals s)[n] = value n) (k : Fin 8) :
    (Vector.ofFn fun t : Fin 8 => (finals s)[8 * k.val + t.val]) =
      Vector.ofFn fun t : Fin 8 => value ⟨8 * k.val + t.val, by omega⟩ :=
  congrArg Vector.ofFn (funext fun t => h ⟨8 * k.val + t.val, by omega⟩)

theorem scale_eq (level : Nat) (x : Int) : scale level x = (x * level).tdiv 64 := rfl

theorem portOut_eq (t : State) : portOut t = fun b =>
    (t.ports[b.port].resampler.held[b.slot] * t.ports[b.port].fader.level : Int).tdiv 64 := rfl

/-- Settles O9: stage by stage, with the saturation written out. -/
theorem houseSampleSignalPath : Obligations.HouseSampleSignalPath := by
  intro s₀ law s
  have law : RouteLaw s := by
    simpa only [s, RouteLaw, SlotLaw, timeoutsFirst_routes, timeoutsFirst_cues, timeoutsFirst_cueTaken] using law
  refine ⟨houseSample s, rfl, ?_⟩
  clear_value s
  intro portOf selected laneOut gain acc exact mixed delayed
  have lane (l : Fin 48) : (laneOuts s)[l] = laneOut l := by
    rw [laneOuts_eq, Lane.selected_eq, portOut_eq, scale_eq]
  have gains (l : Fin 48) (n : Fin 64) : (gainFor (Machine.houseSample s).routes[l] n : Int) = gain l n :=
    congrArg Nat.cast (gainFor_eq _ n)
  have sum (n : Fin 64) : mixSum (beforeMix s).routes (laneOuts s) n = acc n := by
    simp only [mixSum_beforeMix law, lane, gains]
    rfl
  have trim (n : Fin 64) : exactMix s n = exact n := by
    rw [exactMix, sum]
    rfl
  have value (n : Fin 64) : saturate (exact n) = mixed n := saturate_eq _
  have final (n : Fin 64) : (finals s)[n] = scale (Machine.houseSample s).lines[n].fader.level (delayed n) := by
    rw [finals_eq, trim, value]
  refine ⟨fun n => ?_, ?_, fun i hslip hclip hcue hstate => houseSample_keepsOther hslip hclip hcue hstate s,
    fun k => ?_⟩
  · rw [houseSample_line, trim, value]
  · simpa only [trim, value] using houseSample_clip_raisedBy s
  · rw [houseSample_egress, egressFrame, finals_slot final]
    simp only [scale_eq, egressTag, byte]

end Sys2Proof.Machine
end

section
/-! SUPPORT. One lane by itself (chapter 6): when its other binding is preferred, what an evaluation decides, and the
relations of its record, kept by everything that happens to a lane. -/

namespace Sys2Proof.Machine

/-! ## Ranks and preference (R30, R82, R84) -/

/-- The rank of a port (R30), the states outside LOCKED first. -/
theorem Port.rank_eq (p : Port) : p.rank = if p.state ≠ .locked then 0 else if p.degraded then 1 else 2 := by
  rw [Port.rank, ite_not]

/-- The other of the bindings `p` and `a` is preferred to the selected one (R84). -/
def Lane.Prefers (ports : Vector Port 6) (l : Lane) (p a : Binding) : Prop :=
  (l.selection = some .primary ∧ bindingRank ports p < bindingRank ports a) ∨
  (l.selection = some .alternate ∧ bindingRank ports a < bindingRank ports p) ∨
  (l.selection = some .alternate ∧ l.mode = .auto ∧ bindingRank ports p = bindingRank ports a ∧
    1 ≤ bindingRank ports p)

section
variable {ports : Vector Port 6} {l : Lane} {p a : Binding} {sel : Which}

theorem Lane.prefers_iff (hs : l.selection = some sel) :
    l.Prefers ports p a ↔ prefersOther ports l.mode sel p a = true := by
  cases sel <;> simp [Lane.Prefers, hs, prefersOther, and_assoc]

theorem Lane.Prefers.selected (h : l.Prefers ports p a) : ∃ sel, l.selection = some sel := by
  obtain ⟨hs, -⟩ | ⟨hs, -⟩ | ⟨hs, -⟩ := h <;> exact ⟨_, hs⟩

/-! ## The evaluation (R83, R84) -/

/-- A lane without an alternate keeps its selection (R84). -/
theorem Lane.evaluate_of_unbound (h : l.alternate = none ∨ l.primary = none ∨ l.selection = none) :
    l.evaluate ports = (l, false) := by
  unfold Lane.evaluate
  split
  next hp ha hs => simp [hp, ha, hs] at h
  next => rfl

/-- The evaluation of a lane with both bindings. -/
theorem Lane.evaluate_of_bound (hp : l.primary = some p) (ha : l.alternate = some a) (hs : l.selection = some sel) :
    l.evaluate ports =
      if prefersOther ports l.mode sel p a then
        if l.pendingSwitch = none then (Lane.retarget { l with pendingSwitch := some sel.other }, true) else (l, false)
      else if l.pendingSwitch = none then (l, false)
      else (Lane.retarget { l with pendingSwitch := none }, false) := by
  cases hw : l.pendingSwitch <;> simp only [Lane.evaluate, hp, ha, hs, hw, reduceCtorEq, if_true, if_false]

/-- The lane decides to switch (R84, R88). -/
theorem Lane.evaluate_switches_iff : (l.evaluate ports).2 = true ↔ l.pendingSwitch = none ∧
    ∃ p a, l.primary = some p ∧ l.alternate = some a ∧ l.Prefers ports p a := by
  by_cases unbound : l.alternate = none ∨ l.primary = none ∨ l.selection = none
  · rw [Lane.evaluate_of_unbound unbound]
    refine iff_of_false Bool.false_ne_true ?_
    rintro ⟨-, p, a, hp, ha, prefers⟩
    obtain ⟨sel, hs⟩ := prefers.selected
    simp [hp, ha, hs] at unbound
  · simp only [not_or, Option.ne_none_iff_exists'] at unbound
    obtain ⟨⟨a, ha⟩, ⟨p, hp⟩, ⟨sel, hs⟩⟩ := unbound
    simp only [Lane.evaluate_of_bound hp ha hs, Lane.prefers_iff hs, hp, ha, Option.some.injEq]
    split
    next prefers => split <;> simp_all
    next other => split <;> simp_all

end

/-! ## The relations of the record (R80, R85, R87) -/

/-- The relations of R80 by themselves, whatever the fader does. -/
structure Lane.RecordLaw (l : Lane) : Prop where
  unbound : l.primary = none → l.alternate = none
  distinct : l.alternate ≠ none → l.alternate ≠ l.primary
  selected : l.selection = none ↔ l.primary = none
  alternate : l.selection = some .alternate → l.alternate ≠ none
  pending : l.pendingSwitch = none ∨ l.alternate ≠ none ∧ l.pendingSwitch = l.selection.map Which.other

theorem Lane.law_iff {l : Lane} :
    l.Law ↔ l.RecordLaw ∧ (l.pendingSwitch = none ∨ l.fader.state = .closing) := by
  constructor
  · rintro ⟨unbound, distinct, selected, alternate, idle | ⟨bound, other, closing⟩⟩
    · exact ⟨⟨unbound, distinct, selected, alternate, .inl idle⟩, .inl idle⟩
    · exact ⟨⟨unbound, distinct, selected, alternate, .inr ⟨bound, other⟩⟩, .inr closing⟩
  · rintro ⟨⟨unbound, distinct, selected, alternate, pending⟩, closing⟩
    refine ⟨unbound, distinct, selected, alternate, ?_⟩
    tauto

section
variable {l : Lane}

theorem Lane.Law.record (h : l.Law) : l.RecordLaw := (Lane.law_iff.mp h).1

theorem Lane.RecordLaw.law_of_none (h : l.RecordLaw) (idle : l.pendingSwitch = none) : l.Law :=
  Lane.law_iff.mpr ⟨h, .inl idle⟩

theorem Lane.RecordLaw.withFader (h : l.RecordLaw) (f : Fader) : Lane.RecordLaw { l with fader := f } := { h with }

theorem Lane.RecordLaw.withMute (h : l.RecordLaw) (mute : Bool) : Lane.RecordLaw { l with mute := mute } := { h with }

theorem Lane.RecordLaw.cancel (h : l.RecordLaw) : Lane.RecordLaw { l with pendingSwitch := none } :=
  { h with pending := .inl rfl }

/-- A switch to a binding that the lane has and that is not the selected one may be pending. -/
theorem Lane.RecordLaw.switchTo (h : l.RecordLaw) {w : Which} (bound : l.bindingAt w ≠ none)
    (other : l.selection ≠ some w) : Lane.RecordLaw { l with pendingSwitch := some w } := by
  refine { h with pending := .inr ?_ }
  cases hs : l.selection with
  | none =>
    have primary := h.selected.mp hs
    cases w with
    | primary => exact absurd primary bound
    | alternate => exact absurd (h.unbound primary) bound
  | some sel =>
    cases w <;> cases sel
    case primary.alternate => exact ⟨h.alternate hs, rfl⟩
    case alternate.primary => exact ⟨bound, rfl⟩
    all_goals exact absurd hs other

/-- A completed switch leaves a lane with nothing pending (R86). -/
theorem Lane.RecordLaw.completeSwitch (h : l.RecordLaw) : l.completeSwitch.Law := by
  cases hp : l.pendingSwitch with
  | none =>
    rw [Lane.completeSwitch_of_none hp]
    exact h.law_of_none hp
  | some w =>
    obtain ⟨bound, other⟩ := h.pending.resolve_left (by simp [hp])
    have primary : l.primary ≠ none := fun absent => bound (h.unbound absent)
    simp only [Lane.completeSwitch, hp]
    exact Lane.RecordLaw.law_of_none ⟨h.unbound, h.distinct, by simp [primary], fun _ => bound, .inl rfl⟩ rfl

/-- A lane that is given its target: a switch that stays pending has been given SHUT and has not arrived (R85, R87). -/
theorem Lane.RecordLaw.retarget (h : l.RecordLaw) : l.retarget.Law := by
  simp only [Lane.retarget]
  split
  next => exact (h.withFader _).completeSwitch
  next still =>
    refine Lane.law_iff.mpr ⟨h.withFader _, ?_⟩
    cases hp : l.pendingSwitch with
    | none => exact .inl rfl
    | some w =>
      have target : l.fader.give l.wantsOpen = l.fader.giveShut := by simp [Fader.give, Lane.wantsOpen, hp]
      rw [target] at still ⊢
      exact .inr ((Fader.giveShut_state _).resolve_right still)

theorem Lane.Law.evaluate (h : l.Law) (ports : Vector Port 6) : (l.evaluate ports).1.Law := by
  by_cases unbound : l.alternate = none ∨ l.primary = none ∨ l.selection = none
  · rwa [Lane.evaluate_of_unbound unbound]
  · simp only [not_or, Option.ne_none_iff_exists'] at unbound
    obtain ⟨⟨a, ha⟩, ⟨p, hp⟩, ⟨sel, hs⟩⟩ := unbound
    have bound : l.bindingAt sel.other ≠ none := by cases sel <;> simp [Which.other, Lane.bindingAt, hp, ha]
    have switched := (h.record.switchTo bound (by cases sel <;> simp [hs, Which.other])).retarget
    rw [Lane.evaluate_of_bound hp ha hs]
    split
    · split
      · exact switched
      · exact h
    · split
      · exact h
      · exact h.record.cancel.retarget

/-- At a house sample a pending switch's fader, which is CLOSING, goes on closing or arrives (R73, R86). -/
theorem Lane.Law.houseSample (h : l.Law) (outs : Vector Frame 6) : (l.houseSample outs).1.Law := by
  obtain ⟨record, closing⟩ := Lane.law_iff.mp h
  rw [Lane.houseSample_lane_eq]
  split
  next => exact (record.withFader _).completeSwitch
  next stays =>
    refine Lane.law_iff.mpr ⟨record.withFader _, closing.imp_right fun closing => ?_⟩
    refine (Fader.step_of_closing closing).resolve_right fun shut => stays ?_
    exact Fader.arrivesShut_iff.mpr ⟨by simp [closing], shut⟩

/-- After a Restart the primary is selected and nothing is pending (R93). -/
theorem Lane.Law.restart (h : l.Law) : l.restart.Law := by
  obtain ⟨unbound, distinct, -, -, -⟩ := h.record
  refine Lane.RecordLaw.law_of_none ⟨unbound, distinct, ?_, ?_, .inl rfl⟩ rfl
  · simp [Lane.restart]
  · simp [Lane.restart]

end

end Sys2Proof.Machine
end

section
/-! SUPPORT. A property that each change of the ports at one event keeps is kept by every operation of a port; and so
the relations of every lane record are kept by every operation of the part, and by every step. -/

namespace Sys2Proof.Machine

/-! ## The operations of a port, through the changes of its record -/

/-- The properties that a change of the ports at one event keeps, whatever the ports become, and a raise. -/
structure KeptByPortChanges (P : State → Prop) : Prop where
  withPorts : ∀ (ports : Vector Port 6) (s : State), P s → P (s.withPorts ports)
  raise : ∀ (c : Cond) (items : BitVec 64) (s : State), P s → P (s.raise c items)

namespace KeptByPortChanges
variable {P : State → Prop} (kept : KeptByPortChanges P) {s : State}
include kept

theorem withPort (k : Fin 6) (p : Port) (hs : P s) : P (s.withPort k p) := kept.withPorts _ _ hs

theorem raiseIf (on : Bool) (c : Cond) (items : BitVec 64) (hs : P s) : P (s.raiseIf on c items) := by
  cases on with
  | false => exact hs
  | true => exact kept.raise c items s hs

theorem loss (k : Fin 6) (hs : P s) : P (loss k s) := kept.raise _ _ _ (kept.withPort _ _ hs)

theorem seedingEntry (k : Fin 6) (hs : P s) : P (seedingEntry k s) := by
  simp only [Machine.seedingEntry]
  split
  · exact kept.withPort _ _ hs
  · exact hs

theorem windowComplete (k : Fin 6) (hs : P s) : P (windowComplete k s) := by
  simp only [Machine.windowComplete]
  split
  · split
    · split
      · exact kept.raise _ _ _ (kept.withPort _ _ hs)
      split
      · exact kept.withPort _ _ hs
      · exact kept.withPort _ _ hs
    · exact hs
  · exact hs

theorem arrivalAfterScore (k : Fin 6) (capture : Word32) (c : FrameClass) (samples : Frame) (hs : P s) :
    P (arrivalAfterScore k capture c samples s) := by
  simp only [Machine.arrivalAfterScore]
  split
  · exact kept.seedingEntry _ (kept.withPort _ _ hs)
  · exact kept.windowComplete _ (kept.withPort _ _ hs)

theorem portArrival (k : Fin 6) (capture : Word32) (body : List Byte) (hs : P s) :
    P (portArrival k capture body s) := by
  cases handled : s.ports[k].state.handles with
  | false => simpa only [Machine.portArrival, handled, Bool.false_eq_true, if_false] using hs
  | true =>
    rw [portArrival_of_handles handled rfl rfl rfl]
    have warned (q : Port) := kept.raiseIf (warns s.ports[k] q) .portWarn (portBit k) (kept.withPort k q hs)
    split
    · exact kept.raise _ _ _ (kept.withPort _ _ (warned _))
    · exact kept.arrivalAfterScore _ _ _ _ (warned _)

/-! ### The requests that change the ports -/

theorem takePortSetup (port enable rate latency window : Byte) (hs : P s) :
    P (takePortSetup port enable rate latency window s).1 := by
  unfold Machine.takePortSetup
  split
  · exact hs
  split
  · exact kept.withPort _ _ hs
  · exact hs

theorem takePortAccept (port tag mask : Byte) (hs : P s) : P (takePortAccept port tag mask s).1 := by
  unfold Machine.takePortAccept
  split
  · exact kept.withPort _ _ hs
  · exact hs

theorem takePortRevive (port : Byte) (hs : P s) : P (takePortRevive port s).1 := by
  unfold Machine.takePortRevive
  split
  · dsimp only
    split
    · exact kept.withPort _ _ hs
    · exact hs
  · exact hs

end KeptByPortChanges

/-! ## The lanes, through the operations of the part -/

section
variable {s t : State}

theorem LaneLaw.of_same (hs : LaneLaw s) (lanes : t.lanes = s.lanes) : LaneLaw t := fun n => lanes ▸ hs n

theorem LaneLaw.withLane (hs : LaneLaw s) (n : Fin 48) {l : Lane} (hl : l.Law) : LaneLaw (s.withLane n l) :=
  forall_set (P := Lane.Law) hs n hl

theorem evaluateLanes_laneLaw (hs : LaneLaw s) (which : Fin 48 → Bool) : LaneLaw (evaluateLanes which s) := by
  intro n
  rw [evaluateLanes_lane]
  split
  · exact (hs n).evaluate _
  · exact hs n

theorem LaneLaw.withPorts (hs : LaneLaw s) (ports : Vector Port 6) : LaneLaw (s.withPorts ports) := by
  have moved : LaneLaw { s with ports := ports } := hs
  simp only [State.withPorts]
  split
  · exact evaluateLanes_laneLaw moved _
  · exact moved

theorem laneLaw_keptByPortChanges : KeptByPortChanges LaneLaw where
  withPorts ports _ hs := hs.withPorts ports
  raise _ _ _ hs := hs

theorem houseSample_laneLaw (hs : LaneLaw s) : LaneLaw (houseSample s) := by
  intro n
  rw [houseSample_lane]
  exact (hs n).houseSample _

theorem arrivalAtShut_laneLaw (hs : LaneLaw s) (f : FaderId) : LaneLaw (arrivalAtShut f s) := by
  cases f with
  | port k =>
    simp only [arrivalAtShut]
    split
    · exact laneLaw_keptByPortChanges.raiseIf _ _ _ (laneLaw_keptByPortChanges.withPort _ _ hs)
    · exact hs
  | lane n =>
    simp only [arrivalAtShut]
    split
    · exact hs.withLane n (hs n).record.completeSwitch
    · exact hs
  | line n => exact hs

theorem laneLaw_keptByEvents : KeptByEvents LaneLaw where
  ownFields _ _ _ hs := hs
  withHcu _ _ _ hs := hs
  raise := laneLaw_keptByPortChanges.raise
  restartNotice _ hs := hs
  houseSample _ hs := houseSample_laneLaw hs
  loss k _ _ hs := laneLaw_keptByPortChanges.loss k hs
  withReceiver _ _ _ hs := hs
  portArrival k capture body _ hs := laneLaw_keptByPortChanges.portArrival k capture body hs
  windowComplete k _ hs := laneLaw_keptByPortChanges.windowComplete k hs
  seedingEntry k _ hs := laneLaw_keptByPortChanges.seedingEntry k hs
  arrivalAtShut f _ hs := arrivalAtShut_laneLaw hs f
  activateLane n s hs := hs.of_same (activateLane_lanes s n)
  completeCue i s hs := hs.of_same (completeCue_lanes s i)
  pinReset _ _ := reset_laneLaw

/-! ### The requests -/

theorem takeClockRate_laneLaw (hs : LaneLaw s) (code : Byte) : LaneLaw (takeClockRate code s).1 := by
  unfold takeClockRate
  split
  · exact hs
  split
  · exact hs
  next r _ =>
    split
    · exact hs
    · have changed : LaneLaw ((s.withPorts (mapAll s.ports Port.rateChanged)).withHcu (s.hcu.changeRate r)) :=
        hs.withPorts _
      refine laneLaw_keptByEvents.settle ?_
      split
      · exact changed
      · exact laneLaw_keptByEvents.restartNotice _ changed

theorem takeClockSource_laneLaw (hs : LaneLaw s) (code : Byte) : LaneLaw (takeClockSource code s).1 := by
  unfold takeClockSource
  split
  · exact hs
  split
  · exact hs
  split
  · dsimp only
    split
    · exact hs
    · exact laneLaw_keptByEvents.settle hs
  · exact hs

/-- The relations of R80 are the checks of R89, and the primary is selected. -/
theorem takeLaneBind_laneLaw (hs : LaneLaw s) (lane primary alternate mode : Byte) :
    LaneLaw (takeLaneBind lane primary alternate mode s).1 := by
  unfold takeLaneBind
  split
  · exact hs
  split
  next n p a m _ _ _ _ =>
    split
    · exact hs
    next bound =>
    split
    · exact hs
    next distinct =>
    simp only [Option.isNone_iff_eq_none, Option.isSome_iff_ne_none, not_and, not_not] at bound distinct
    dsimp only
    exact evaluateLanes_laneLaw (hs.withLane n
      (Lane.RecordLaw.retarget ⟨bound, distinct, by simp, by simp, .inl rfl⟩)) _
  next => exact hs

theorem takeLaneSelect_laneLaw (hs : LaneLaw s) (lane choice : Byte) : LaneLaw (takeLaneSelect lane choice s).1 := by
  unfold takeLaneSelect
  split
  next n w _ _ =>
    dsimp only
    split
    · exact hs
    next b bound =>
    split
    · exact hs
    split
    · exact hs.withLane n (hs n).record.cancel.retarget
    next other =>
    split
    · exact hs
    · exact hs.withLane n ((hs n).record.switchTo (Option.ne_none_iff_exists'.mpr ⟨b, bound⟩) other).retarget
  next => exact hs

theorem takeLaneMute_laneLaw (hs : LaneLaw s) (lane flag : Byte) : LaneLaw (takeLaneMute lane flag s).1 := by
  unfold takeLaneMute
  split
  next n m _ _ => exact hs.withLane n ((hs n).record.withMute m).retarget
  next => exact hs

theorem take_laneLaw (hs : LaneLaw s) (q : Request) : LaneLaw (take q s).1 := by
  cases q with
  | clockRate code => exact takeClockRate_laneLaw hs code
  | clockSource code => exact takeClockSource_laneLaw hs code
  | portSetup port enable rate latency window => exact laneLaw_keptByPortChanges.takePortSetup _ _ _ _ _ hs
  | portAccept port tag mask => exact laneLaw_keptByPortChanges.takePortAccept _ _ _ hs
  | portRevive port => exact laneLaw_keptByPortChanges.takePortRevive _ hs
  | laneBind lane primary alternate mode => exact takeLaneBind_laneLaw hs lane primary alternate mode
  | laneSelect lane choice => exact takeLaneSelect_laneLaw hs lane choice
  | laneMute lane flag => exact takeLaneMute_laneLaw hs lane flag
  | _ => exact hs.of_same (take_lanes rfl s)

theorem executeRestart_laneLaw (hs : LaneLaw s) : LaneLaw (executeRestart s) := by
  intro n
  rw [executeRestart_lanes]
  exact (hs n).restart

theorem laneLaw_keptByRequests : KeptByRequests LaneLaw where
  take q _ hs := take_laneLaw hs q
  restart _ hs := executeRestart_laneLaw hs
  withLink _ _ hs := hs
  linkFault _ _ _ hs := hs

end

/-- Settles O55: every operation of the part keeps the relations of every lane record. -/
theorem stepKeepsLaneLaw : Obligations.StepKeepsLaneLaw := fun _ _ hs ht =>
  laneLaw_keptByEvents.step laneLaw_keptByRequests hs ht

end Sys2Proof.Machine
end

section
/-! SUPPORT. The lanes that evaluate at one event, and the events that make them: what each lane becomes, for which
lanes Failover is raised, and which lanes a change of the ports concerns. -/

namespace Sys2Proof.Machine

/-! ## The lanes that evaluate at one event (R83, R84, R88) -/

section
variable {s : State} {which : Fin 48 → Bool} {n : Fin 48}

/-- Lane `n` evaluates at the event and decides to switch. -/
def switchesAt (which : Fin 48 → Bool) (s : State) (n : Fin 48) : Bool := which n && (s.lanes[n].evaluate s.ports).2

theorem setBits_of_none {n : Nat} {p : Fin n → Bool} (h : ∀ i, p i = false) : setBits p = 0 := by
  refine BitVec.eq_of_getLsbD_eq fun m hm => ?_
  have empty : ¬(setBits p).getLsbD m = true := by
    rw [getLsbD_setBits p hm]
    simp [h]
  simpa using empty

theorem evaluateLanes_rest (which : Fin 48 → Bool) (s : State) : evaluateLanes which s =
    { s with lanes := (evaluateLanes which s).lanes, conditions := (evaluateLanes which s).conditions } := by
  simp only [evaluateLanes, State.raiseSet, State.raiseIf]
  split <;> rfl

/-- The conditions are those of one raise of Failover, for the lanes that decide to switch (R88). -/
theorem evaluateLanes_conditions (which : Fin 48 → Bool) (s : State) : (evaluateLanes which s).conditions =
    (s.raiseSet .failover (setBits (switchesAt which s))).conditions := by
  have decided (n : Fin 48) : (if which n then s.lanes[n].evaluate s.ports else (s.lanes[n], false)).2 =
      switchesAt which s n := by
    unfold switchesAt
    cases which n <;> rfl
  simp only [evaluateLanes, State.raiseSet_conditions, Fin.getElem_fin, Vector.getElem_ofFn]
  simp only [← Fin.getElem_fin, decided]

theorem evaluateLanes_conditions_of_none (h : ∀ n, switchesAt which s n = false) :
    (evaluateLanes which s).conditions = s.conditions := by
  rw [evaluateLanes_conditions, setBits_of_none h]
  rfl

theorem evaluateLanes_keepsCondition {i : Fin 12} (hi : i ≠ Cond.failover.index) :
    (evaluateLanes which s).conditions[i] = s.conditions[i] := by
  have kept := KeepsCondition.refl i s
  rw [evaluateLanes_conditions, State.raiseSet, State.raiseIf]
  split
  · exact kept.raise hi _
  · exact kept

theorem evaluateLanes_failover_raisedBy (which : Fin 48 → Bool) (s : State) :
    Condition.RaisedBy (fun m => ∃ n : Fin 48, n.val = m ∧ switchesAt which s n = true)
      s.conditions[Cond.failover.index] (evaluateLanes which s).conditions[Cond.failover.index] := by
  rw [evaluateLanes_conditions]
  exact State.raiseSet_raisedBy s (by decide) .failover _

/-- A lane without both bindings, or not concerned by the event. -/
theorem evaluateLanes_lane_of_idle (h : which n = false ∨ s.lanes[n].alternate = none ∨ s.lanes[n].primary = none ∨
    s.lanes[n].selection = none) : (evaluateLanes which s).lanes[n] = s.lanes[n] := by
  obtain hn | unbound := h
  · exact evaluateLanes_of_not hn s
  · rw [evaluateLanes_lane, Lane.evaluate_of_unbound unbound, ite_self]

end

/-- The rank of a binding, by its port's state and degraded flag (R30, R82). -/
theorem bindingRank_eq (ports : Vector Port 6) (b : Binding) : bindingRank ports b =
    if ports[b.port].state ≠ .locked then 0 else if ports[b.port].degraded then 1 else 2 := Port.rank_eq _

theorem Which.other_eq (w : Which) : w.other = if w = .primary then .alternate else .primary := by cases w <;> rfl

/-! ## A change of the ports at one event (R30, R83) -/

theorem Lane.boundTo_iff {l : Lane} {k : Fin 6} : l.boundTo k = true ↔
    (∃ b, l.primary = some b ∧ b.port = k) ∨ ∃ b, l.alternate = some b ∧ b.port = k := by
  simp [Lane.boundTo, Option.any_eq_true]

/-- The lanes that a change of the ports to `ports` makes evaluate: those bound to a port whose rank changes. -/
def concerned (ports : Vector Port 6) (s : State) (n : Fin 48) : Bool :=
  (indices 6).any fun k => ports[k].rank != s.ports[k].rank && s.lanes[n].boundTo k

section
variable {ports : Vector Port 6} {s : State} {n : Fin 48} {k : Fin 6}

theorem concerned_iff :
    concerned ports s n = true ↔ ∃ k : Fin 6, ports[k].rank ≠ s.ports[k].rank ∧ s.lanes[n].boundTo k = true := by
  simp [concerned]

theorem State.withPorts_of_same (h : ∀ k : Fin 6, ports[k].rank = s.ports[k].rank) :
    s.withPorts ports = { s with ports := ports } := by
  simp only [State.withPorts, h, bne_self_eq_false]
  exact if_neg (by simp)

theorem State.withPorts_of_changed (h : ports[k].rank ≠ s.ports[k].rank) :
    s.withPorts ports = evaluateLanes (concerned ports s) { s with ports := ports } := by
  have changed : (indices 6).any (fun k => ports[k].rank != s.ports[k].rank) = true :=
    List.any_eq_true.mpr ⟨k, mem_indices k, by simpa using h⟩
  simp only [State.withPorts, changed, if_true]
  rfl

/-- A change of one port concerns the lanes bound to it. -/
theorem concerned_set {p : Port} (h : p.rank ≠ s.ports[k].rank) :
    concerned (s.ports.set k p) s n = s.lanes[n].boundTo k := by
  rw [Bool.eq_iff_iff, concerned_iff]
  constructor
  · rintro ⟨j, changed, bound⟩
    by_cases hj : j = k
    · rwa [← hj]
    · exact absurd (by rw [getElem_set_of_ne _ hj]) changed
  · exact fun bound => ⟨k, by rwa [getElem_set_self], bound⟩

end

/-- Settles O29: what each lane becomes and what is raised, then the lanes that a change of several ports and of one
port concerns. -/
theorem laneEvaluation : Obligations.LaneEvaluation := by
  refine ⟨fun which s => ?_, fun ports s => ?_, fun k p s => ?_⟩
  · intro rank prefers decides t
    have prefers_iff (l : Lane) (p a : Binding) : prefers l p a ↔ l.Prefers s.ports p a := by
      simp only [Lane.Prefers, bindingRank_eq]
      rfl
    have decides_iff (n : Fin 48) : decides n ↔ switchesAt which s n = true := by
      simp only [switchesAt, Bool.and_eq_true, Lane.evaluate_switches_iff, ← prefers_iff]
      rfl
    refine ⟨evaluateLanes_rest which s, fun n => ?_, fun i hi => evaluateLanes_keepsCondition hi, fun settled => ?_,
      fun n hn => ?_⟩
    · intro l
      refine ⟨evaluateLanes_lane_of_idle, fun p a sel hn hp ha hs => ?_⟩
      have lane : t.lanes[n] = (l.evaluate s.ports).1 := by
        rw [evaluateLanes_lane, if_pos hn]
      rw [lane, Lane.evaluate_of_bound hp ha hs, ← Which.other_eq, prefers_iff, Lane.prefers_iff hs]
      refine ⟨fun prefers idle => ?_, fun prefers pending => ?_, fun prefers idle => ?_, fun prefers pending => ?_⟩
      · rw [if_pos prefers, if_pos idle]
      · rw [if_pos prefers, if_neg pending]
      · rw [if_neg prefers, if_pos idle]
      · rw [if_neg prefers, if_neg pending]
    · exact evaluateLanes_conditions_of_none fun n => by simpa only [decides_iff, Bool.not_eq_true] using settled n
    · obtain ⟨-, -, latched, detail⟩ := evaluateLanes_failover_raisedBy which s
      simp only [decides_iff] at hn ⊢
      exact ⟨latched.mpr (.inr ⟨n.val, by omega, n, rfl, hn⟩), fun m => detail m.val m.isLt⟩
  · intro rank changed bound
    have changed_iff (k : Fin 6) : changed k ↔ ports[k].rank ≠ s.ports[k].rank := by
      simp only [Port.rank_eq]
      rfl
    refine ⟨fun same => ?_, fun ⟨k, hk⟩ => ⟨concerned ports s, fun n => ?_, ?_⟩⟩
    · exact State.withPorts_of_same fun k => by simpa only [changed_iff, not_not] using same k
    · simp only [concerned_iff, changed_iff, Lane.boundTo_iff]
      rfl
    · exact State.withPorts_of_changed ((changed_iff k).mp hk)
  · intro rank bound
    have rank_eq (q : Port) : rank q = q.rank := (Port.rank_eq q).symm
    refine ⟨rfl, ?_⟩
    rw [rank_eq, rank_eq]
    split
    next same => exact State.withPort_of_rank_eq same
    next changed =>
      have concerns : concerned (s.ports.set k p) s = bound := funext fun n => concerned_set changed
      rw [State.withPort, State.withPorts_of_changed (k := k) (by rwa [getElem_set_self]), concerns]

end Sys2Proof.Machine
end

section
/-! SUPPORT. The requests that change a lane, each for a part that is ready to answer. -/

namespace Sys2Proof.Machine

/-! ## The fields of the lane requests (R177) -/

/-- A code with the two values 0 and 1. -/
theorem twoCodes_eq {α : Type} (x y : α) (b : Byte) : (if b = 0 then some x else if b = 1 then some y else none) =
    if 1 < b.toNat then none else some (if b = 0 then x else y) := by
  split
  next h => rw [h]; rfl
  split
  next h => rw [h]; rfl
  next h0 h1 => rw [if_pos (by bv_omega)]

theorem modeOf_eq (b : Byte) : modeOf b = if 1 < b.toNat then none else some (if b = 0 then .hold else .auto) :=
  twoCodes_eq _ _ b

theorem choiceOf_eq (b : Byte) :
    choiceOf b = if 1 < b.toNat then none else some (if b = 0 then .primary else .alternate) := twoCodes_eq _ _ b

theorem choiceOf_code (w : Which) : choiceOf (if w = .primary then 0 else 1) = some w := by cases w <;> rfl

theorem bindingOf_bindingCode (p : Option Binding) : bindingOf (bindingCode p) = some p := by
  have named : ∀ (k : Fin 6) (t : Fin 8), bindingOf (bindingCode (some ⟨k, t⟩)) = some (some ⟨k, t⟩) := by decide
  cases p with
  | none => rfl
  | some b => exact named b.port b.slot

theorem toNat_high_digit (b : Byte) : (b >>> 4).toNat = b.toNat / 16 := by
  rw [BitVec.toNat_ushiftRight, Nat.shiftRight_eq_div_pow]

theorem toNat_low_digit (b : Byte) : (b &&& 0x0F).toNat = b.toNat % 16 := by
  rw [BitVec.toNat_and]
  exact Nat.and_two_pow_sub_one_eq_mod _ 4

theorem index_val {n : Nat} {b : Byte} {i : Fin n} (h : index n b = some i) : i.val = b.toNat := by
  unfold index at h
  split at h
  next => rw [← Option.some.inj h]
  next => cases h

/-- A byte spells a binding, or none, exactly where it is its code; so a binding has one code. -/
theorem bindingOf_eq_some_iff {b : Byte} {p : Option Binding} : bindingOf b = some p ↔ bindingCode p = b := by
  refine ⟨fun h => ?_, fun h => h ▸ bindingOf_bindingCode p⟩
  unfold bindingOf at h
  split at h
  next absent => rw [← Option.some.inj h, absent]; rfl
  split at h
  next k t hk ht =>
    have high := (index_val hk).trans (toNat_high_digit b)
    have low := (index_val ht).trans (toNat_low_digit b)
    rw [← Option.some.inj h, bindingCode, high, low, Nat.div_add_mod, byte_toNat]
  next => cases h

theorem bindingCode_eq_absent_iff {p : Option Binding} : bindingCode p = 0xFF ↔ p = none := by
  rw [← bindingOf_eq_some_iff]
  exact ⟨fun h => (Option.some.inj h).symm, fun h => h ▸ rfl⟩

theorem bindingCode_inj {p a : Option Binding} : bindingCode p = bindingCode a ↔ p = a := by
  rw [← bindingOf_eq_some_iff, bindingOf_bindingCode, Option.some.injEq, eq_comm]

/-- A byte that names a port above 5 or a slot above 7 (R177). -/
abbrev BadBinding (b : Byte) : Prop := b ≠ 0xFF ∧ (5 < b.toNat / 16 ∨ 7 < b.toNat % 16)

theorem bindingCode_not_bad (p : Option Binding) : ¬BadBinding (bindingCode p) := by
  rintro ⟨named, bad⟩
  cases p with
  | none => exact named rfl
  | some b =>
    have code : (bindingCode (some b)).toNat = 16 * b.port.val + b.slot.val := by
      simp only [bindingCode, byte, BitVec.toNat_ofNat]
      omega
    omega

/-! ## A lane without a pending switch (R87) -/

theorem Lane.retarget_of_idle {l : Lane} (h : l.pendingSwitch = none) : l.retarget = { l with
    fader := if l.mute = false ∧ l.selection ≠ none then l.fader.giveOpen else l.fader.giveShut } := by
  simp only [Lane.retarget, Lane.completeSwitch, h, ite_self, Fader.give, Lane.wantsOpen_iff, and_true]

/-! ## Lane Bind (R89) -/

/-- The lane that a Lane Bind leaves, before it evaluates. -/
def Lane.bind (primary alternate : Option Binding) (mode : ReturnMode) (l : Lane) : Lane := { l with
  primary := primary, alternate := alternate, mode := mode,
  selection := if primary = none then none else some .primary, pendingSwitch := none,
  fader := if l.mute = false ∧ primary ≠ none then l.fader.giveOpen else l.fader.giveShut }

theorem Lane.retarget_bind (l : Lane) (p a : Option Binding) (m : ReturnMode) :
    Lane.retarget ⟨p, a, m, l.mute, p.map fun _ => .primary, none, l.fader⟩ = l.bind p a m := by
  rw [Lane.retarget_of_idle rfl]
  cases p <;> simp [Lane.bind]

section
variable {lane primary alternate mode : Byte} {s : State}

/-- A Lane Bind in CONFIG whose fields pass R89's checks. -/
theorem takeLaneBind_of_fields {n : Fin 48} {p a : Option Binding} {m : ReturnMode} (hop : s.op = .config)
    (hn : index 48 lane = some n) (hp : bindingOf primary = some p) (ha : bindingOf alternate = some a)
    (hm : modeOf mode = some m) (bound : p = none → a = none) (distinct : a ≠ none → a ≠ p) :
    takeLaneBind lane primary alternate mode s =
      (evaluateLanes (fun i => i = n) { s with lanes := s.lanes.set n (s.lanes[n].bind p a m) }, .done) := by
  have unbound : ¬(p.isNone = true ∧ a.isSome = true) := by
    rintro ⟨hp, ha⟩
    simp [bound (Option.isNone_iff_eq_none.mp hp)] at ha
  have same : ¬(a.isSome = true ∧ a = p) := fun ⟨ha, hap⟩ => distinct (Option.isSome_iff_ne_none.mp ha) hap
  simp only [takeLaneBind, hop, hn, hp, ha, hm, ne_eq, not_true_eq_false, unbound, same, if_false,
    Lane.retarget_bind, State.withLane]

/-- A Lane Bind in CONFIG with a field out of range, an alternate alone, or one binding named twice. -/
theorem takeLaneBind_of_range (hop : s.op = .config)
    (h : (47 < lane.toNat ∨ BadBinding primary ∨ BadBinding alternate ∨ 1 < mode.toNat) ∨
      (primary = 0xFF ∧ alternate ≠ 0xFF) ∨ (alternate ≠ 0xFF ∧ alternate = primary)) :
    takeLaneBind lane primary alternate mode s = (s, .refuse .range) := by
  simp only [takeLaneBind, hop, ne_eq, not_true_eq_false, if_false]
  split
  next n p a m hn hp ha hm =>
    have hlane := index_eq_some hn
    have hmode : ¬1 < mode.toNat := fun above => by
      rw [modeOf_eq, if_pos above] at hm
      cases hm
    rw [bindingOf_eq_some_iff] at hp ha
    subst hp ha
    obtain (low | bad | bad | bad) | checks := h
    · omega
    · exact absurd bad (bindingCode_not_bad p)
    · exact absurd bad (bindingCode_not_bad a)
    · exact absurd bad hmode
    simp only [ne_eq, bindingCode_eq_absent_iff, bindingCode_inj] at checks
    simp only [Option.isNone_iff_eq_none, Option.isSome_iff_ne_none, ne_eq]
    split
    · rfl
    next bound => rw [if_pos (checks.resolve_left bound)]
  next => rfl

end

/-- Settles O30: R89's checks in order, then the lane as it is bound, which evaluates. -/
theorem laneBind : Obligations.LaneBind := by
  intro dest lane primary alternate mode s h bad
  have answers {t : State} {r : Reply} (ht : takeLaneBind lane primary alternate mode s = (t, r)) :
      exec (.laneBind dest lane primary alternate mode) s = .next (t.replying 0x30 r.status r.content) :=
    exec_answers (.laneBind lane primary alternate mode) h rfl (by simp) ht
  have bad_iff (b : Byte) : bad b = true ↔ BadBinding b := by
    simp only [bad, decide_eq_true_eq, BadBinding]
  simp only [firstRefusal_cons, firstRefusal_nil, decide_eq_true_eq, bad_iff]
  by_cases hop : s.op = .config
  swap
  · rw [if_pos hop]
    have refused : takeLaneBind lane primary alternate mode s = (s, .refuse .locked) := by
      rw [takeLaneBind, if_pos hop]
    exact (answers refused :)
  rw [if_neg (not_not.mpr hop)]
  by_cases range : 47 < lane.toNat ∨ BadBinding primary ∨ BadBinding alternate ∨ 1 < mode.toNat
  · rw [if_pos range]
    exact (answers (takeLaneBind_of_range hop (.inl range)) :)
  rw [if_neg range]
  by_cases alone : primary = 0xFF ∧ alternate ≠ 0xFF
  · rw [if_pos alone]
    exact (answers (takeLaneBind_of_range hop (.inr (.inl alone))) :)
  rw [if_neg alone]
  by_cases twice : alternate ≠ 0xFF ∧ alternate = primary
  · rw [if_pos twice]
    exact (answers (takeLaneBind_of_range hop (.inr (.inr twice))) :)
  rw [if_neg twice]
  intro n p a hn hp ha
  rw [← bindingCode_eq] at hp ha
  subst hp ha
  simp only [ne_eq, bindingCode_eq_absent_iff, bindingCode_inj, not_and, not_not] at alone twice
  have hm : modeOf mode = some (if mode = 0 then .hold else .auto) := by
    rw [modeOf_eq, if_neg fun above => range (.inr (.inr (.inr above)))]
  exact (answers (takeLaneBind_of_fields hop (index_of_eq hn) (bindingOf_bindingCode p) (bindingOf_bindingCode a) hm
    alone twice) :)

/-! ## Lane Select and Lane Mute (R90, R91) -/

theorem Lane.bindingAt_eq (l : Lane) (w : Which) :
    l.bindingAt w = if w = .primary then l.primary else l.alternate := by cases w <;> rfl

theorem Lane.bindingAt_other (l : Lane) (w : Which) :
    l.bindingAt w.other = if w = .primary then l.alternate else l.primary := by cases w <;> rfl

theorem worseChoice_iff {ports : Vector Port 6} {l : Lane} {b : Binding} {w : Which} :
    worseChoice ports l b w = true ↔ ∃ o, (if w = .primary then l.alternate else l.primary) = some o ∧
      bindingRank ports b < bindingRank ports o := by
  simp only [worseChoice, Lane.bindingAt_other, Option.any_eq_true, decide_eq_true_eq]

section
variable {lane choice flag : Byte} {s : State} {n : Fin 48}

theorem takeLaneSelect_of_range (h : 47 < lane.toNat ∨ 1 < choice.toNat) :
    takeLaneSelect lane choice s = (s, .refuse .range) := by
  unfold takeLaneSelect
  split
  next n w hn hw =>
    have hlane := index_eq_some hn
    rw [choiceOf_eq, if_pos (h.resolve_left (by omega))] at hw
    cases hw
  next => rfl

theorem takeLaneMute_of_range (h : 47 < lane.toNat ∨ 1 < flag.toNat) :
    takeLaneMute lane flag s = (s, .refuse .range) := by
  unfold takeLaneMute
  split
  next n m hn hm =>
    have hlane := index_eq_some hn
    rw [flagOf_eq, if_pos (h.resolve_left (by omega))] at hm
    cases hm
  next => rfl

theorem takeLaneSelect_of_unbound {w : Which} (hn : index 48 lane = some n) (hw : choiceOf choice = some w)
    (unbound : s.lanes[n].bindingAt w = none) : takeLaneSelect lane choice s = (s, .refuse .wrongstate) := by
  simp only [takeLaneSelect, hn, hw, unbound]

/-- A Lane Select of a binding that the lane has. -/
theorem takeLaneSelect_of_bound {w : Which} {b : Binding} (hn : index 48 lane = some n)
    (hw : choiceOf choice = some w) (bound : s.lanes[n].bindingAt w = some b) : takeLaneSelect lane choice s =
      if worseChoice s.ports s.lanes[n] b w then (s, .refuse .wrongstate)
      else if s.lanes[n].selection = some w then
        (s.withLane n (Lane.retarget { s.lanes[n] with pendingSwitch := none }), .done)
      else if s.lanes[n].pendingSwitch = some w then (s, .done)
      else (s.withLane n (Lane.retarget { s.lanes[n] with pendingSwitch := some w }), .done) := by
  simp only [takeLaneSelect, hn, hw, bound]

theorem takeLaneMute_of_fields {m : Bool} (hn : index 48 lane = some n) (hm : flagOf flag = some m) :
    takeLaneMute lane flag s = (s.withLane n (Lane.retarget { s.lanes[n] with mute := m }), .done) := by
  simp only [takeLaneMute, hn, hm]

end

/-- Settles O31: R90's refusals and its cases in order, then R91's target. -/
theorem laneSelectAndMute : Obligations.LaneSelectAndMute := by
  refine ⟨fun dest lane choice s h => ?_, fun dest lane flag s h => ?_⟩
  · have answers {t : State} {r : Reply} (ht : takeLaneSelect lane choice s = (t, r)) :
        exec (.laneSelect dest lane choice) s = .next (t.replying 0x31 r.status r.content) :=
      exec_answers (.laneSelect lane choice) h rfl (by simp) ht
    refine ⟨fun range => (answers (takeLaneSelect_of_range range) :), fun n w hn hw => ?_⟩
    have hn : index 48 lane = some n := index_of_eq hn
    have hw : choiceOf choice = some w := hw ▸ choiceOf_code w
    intro l rank chosen other
    have rank_eq (b : Binding) : rank b = bindingRank s.ports b := (bindingRank_eq s.ports b).symm
    have chosen_eq : l.bindingAt w = chosen := l.bindingAt_eq w
    have worse_iff (b : Binding) : (∃ o, other = some o ∧ rank b < rank o) ↔ worseChoice s.ports l b w = true := by
      simp only [worseChoice_iff, rank_eq]
      rfl
    cases hb : chosen with
    | none => exact (answers (takeLaneSelect_of_unbound hn hw (chosen_eq.trans hb)) :)
    | some b =>
      have taken := takeLaneSelect_of_bound hn hw (chosen_eq.trans hb)
      simp only [worse_iff]
      split
      next worse => exact (answers (taken.trans (if_pos worse)) :)
      next fits =>
      rw [if_neg fits] at taken
      split
      next selected => exact (answers (taken.trans (if_pos selected)) :)
      next other =>
      rw [if_neg other] at taken
      split
      next pending => exact (answers (taken.trans (if_pos pending)) :)
      next new => exact (answers (taken.trans (if_neg new)) :)
  · have answers {t : State} {r : Reply} (ht : takeLaneMute lane flag s = (t, r)) :
        exec (.laneMute dest lane flag) s = .next (t.replying 0x32 r.status r.content) :=
      exec_answers (.laneMute lane flag) h rfl (by simp) ht
    refine ⟨fun range => (answers (takeLaneMute_of_range range) :), fun n hn hflag => ?_⟩
    have hm : flagOf flag = some (flag == 1) := by rw [flagOf_eq, if_neg (by omega)]
    exact (answers (takeLaneMute_of_fields (index_of_eq hn) hm) :)

end Sys2Proof.Machine
end

section
/-! SUPPORT. Lists in ascending line order: a list is fixed by what it holds for each line, which gives a Route Write's
entries, the union of an activation, and the number of entries of each. -/

namespace Sys2Proof.Machine

/-! ## Lists in ascending order of a key -/

/-- In a list whose members have different keys, a member is found by its key. -/
theorem find?_key {α κ : Type} [DecidableEq κ] {key : α → κ} {l : List α} (distinct : (l.map key).Nodup) {n : κ}
    {a : α} : l.find? (fun b => key b = n) = some a ↔ a ∈ l ∧ key a = n := by
  refine ⟨fun found => ⟨List.mem_of_find?_eq_some found, by simpa using List.find?_some found⟩, fun ⟨mem, hn⟩ => ?_⟩
  have some_found : (l.find? fun b => key b = n).isSome = true := List.find?_isSome.mpr ⟨a, mem, by simpa using hn⟩
  obtain ⟨b, found⟩ := Option.isSome_iff_exists.mp some_found
  have named : key b = n := by simpa using List.find?_some found
  rw [found, List.inj_on_of_nodup_map distinct (List.mem_of_find?_eq_some found) mem (named.trans hn.symm)]

section
variable {α : Type} {m : Nat} {key : α → Fin m} {l : List α}

/-- Members picked index by index stand in ascending order. -/
theorem ascending_filterMap {f : Fin m → Option α} (hf : ∀ n, ∀ a ∈ f n, key a = n) :
    ((indices m).filterMap f).Pairwise fun a b => key a < key b := by
  refine List.pairwise_filterMap.mpr ((List.sortedLT_finRange m).pairwise.imp ?_)
  intro i j hij a ha b hb
  rwa [hf i a ha, hf j b hb]

theorem ascending_nodup_keys (h : l.Pairwise fun a b => key a < key b) : (l.map key).Nodup :=
  List.pairwise_map.mpr (h.imp ne_of_lt)

/-- An ascending list is what it holds for each key, in the order of the keys. -/
theorem filterMap_find?_of_ascending (h : l.Pairwise fun a b => key a < key b) :
    (indices m).filterMap (fun n => l.find? fun a => key a = n) = l := by
  have : Std.Irrefl fun a b : α => key a < key b := ⟨fun a => lt_irrefl (key a)⟩
  have : Std.Antisymm fun a b : α => key a < key b := ⟨fun _ _ hab hba => absurd hab hba.asymm⟩
  have found {n : Fin m} {a : α} := find?_key (ascending_nodup_keys h) (n := n) (a := a)
  refine (ascending_filterMap fun n a ha => (found.mp ha).2).eq_of_mem_iff h fun a => ?_
  simp [found]

end

/-! ## The pairs of a Route Write or a Cue Load (R98, R99, R110, R111) -/

theorem badPairs_iff {pairs : List Pair} :
    badPairs pairs = true ↔ (∃ p ∈ pairs, 63 < p.1.toNat) ∨ ¬(pairs.map (·.1)).Nodup := by
  simp only [badPairs, Bool.or_eq_true, List.any_eq_true, decide_eq_true_eq, Bool.not_eq_true', decide_eq_false_iff_not]
  exact Iff.rfl

theorem overUnity_iff {pairs : List Pair} : overUnity pairs = true ↔ ∃ p ∈ pairs, 32768 < p.2.toNat := by
  simp only [overUnity, List.any_eq_true, decide_eq_true_eq]
  exact Iff.rfl

theorem sortedPairs_ascending (pairs : List Pair) : (sortedPairs pairs).Pairwise fun a b => a.1 < b.1 := by
  refine ascending_filterMap (key := Prod.fst) fun n t ht => ?_
  obtain ⟨p, -, rfl⟩ := Option.map_eq_some_iff.mp ht
  rfl

section
variable {pairs : List Pair}

theorem nodup_lines (distinct : (pairs.map (·.1)).Nodup) : (pairs.map fun p => p.1.toNat).Nodup := by
  have lines := distinct.map fun (a b : Byte) => BitVec.eq_of_toNat_eq
  rwa [List.map_map] at lines

theorem mem_sortedPairs (distinct : (pairs.map (·.1)).Nodup) {t : Fin 64 × Nat} :
    t ∈ sortedPairs pairs ↔ ∃ p ∈ pairs, t.1.val = p.1.toNat ∧ t.2 = min p.2.toNat 32768 := by
  simp only [sortedPairs, List.mem_filterMap, mem_indices, true_and, Option.map_eq_some_iff,
    find?_key (nodup_lines distinct)]
  constructor
  · rintro ⟨n, p, ⟨mem, hn⟩, rfl⟩
    exact ⟨p, mem, hn.symm, rfl⟩
  · rintro ⟨p, mem, hn, hg⟩
    exact ⟨t.1, p, ⟨mem, hn.symm⟩, Prod.ext rfl hg.symm⟩

/-- There is one sorted pair for each pair (R99, R111). -/
theorem length_sortedPairs (distinct : (pairs.map (·.1)).Nodup) (named : ∀ p ∈ pairs, p.1.toNat ≤ 63) :
    (sortedPairs pairs).length = pairs.length := by
  have sorted : ((sortedPairs pairs).map fun t => t.1.val).Nodup :=
    List.pairwise_map.mpr ((sortedPairs_ascending pairs).imp fun h => Nat.ne_of_lt h)
  have same : ((sortedPairs pairs).map fun t => t.1.val).Perm (pairs.map fun p => p.1.toNat) := by
    refine (List.perm_ext_iff_of_nodup sorted (nodup_lines distinct)).mpr fun n => ?_
    simp only [List.mem_map, mem_sortedPairs distinct]
    constructor
    · rintro ⟨t, ⟨p, mem, line, -⟩, rfl⟩
      exact ⟨p, mem, line.symm⟩
    · rintro ⟨p, mem, rfl⟩
      exact ⟨(⟨p.1.toNat, by have := named p mem; omega⟩, min p.2.toNat 32768), ⟨p, mem, rfl, rfl⟩, rfl⟩
  simpa using same.length_eq

end

theorem sortedPairs_le_unity {pairs : List Pair} {t : Fin 64 × Nat} (ht : t ∈ sortedPairs pairs) : t.2 ≤ unity := by
  obtain ⟨n, -, hn⟩ := List.mem_filterMap.mp ht
  obtain ⟨p, -, rfl⟩ := Option.map_eq_some_iff.mp hn
  exact Nat.min_le_right _ _

theorem mem_plainEntries {targets : List (Fin 64 × Nat)} {e : RouteEntry} :
    e ∈ plainEntries targets ↔ e.ramp = none ∧ (e.line, e.gain) ∈ targets := by
  obtain ⟨line, gain, ramp⟩ := e
  simp only [plainEntries, List.mem_map, Prod.exists, RouteEntry.mk.injEq]
  constructor
  · rintro ⟨_, _, mem, rfl, rfl, rfl⟩
    exact ⟨rfl, mem⟩
  · rintro ⟨rfl, mem⟩
    exact ⟨line, gain, mem, rfl, rfl, rfl⟩

theorem plainEntries_ascending {targets : List (Fin 64 × Nat)} (h : targets.Pairwise fun a b => a.1 < b.1) :
    (plainEntries targets).Pairwise fun a b => a.line < b.line :=
  List.pairwise_map.mpr h

@[simp] theorem length_plainEntries (targets : List (Fin 64 × Nat)) : (plainEntries targets).length = targets.length :=
  List.length_map _

/-! ## The union of an activation (R116) -/

section
variable {list : List RouteEntry} {targets : List (Fin 64 × Nat)}

theorem unionEntry_isSome {n : Fin 64} :
    (unionEntry list targets n).isSome = true ↔ (∃ e ∈ list, e.line = n) ∨ ∃ t ∈ targets, t.1 = n := by
  have named : (unionEntry list targets n).isSome =
      ((list.find? fun e => e.line = n).isSome || (targets.find? fun t => t.1 = n).isSome) := by
    unfold unionEntry
    cases list.find? fun e => e.line = n <;> cases targets.find? fun t => t.1 = n <;> rfl
  simp only [named, Bool.or_eq_true, List.find?_isSome, decide_eq_true_eq]

theorem mem_lines_cueUnion {n : Fin 64} :
    n ∈ (cueUnion list targets).map RouteEntry.line ↔ (∃ e ∈ list, e.line = n) ∨ ∃ t ∈ targets, t.1 = n := by
  simp only [← unionEntry_isSome, cueUnion, List.mem_map, List.mem_filterMap, mem_indices, true_and,
    Option.isSome_iff_exists]
  constructor
  · rintro ⟨e, ⟨i, he⟩, rfl⟩
    exact ⟨e, by rwa [unionEntry_line he]⟩
  · rintro ⟨e, he⟩
    exact ⟨e, ⟨n, he⟩, unionEntry_line he⟩

/-- The union adds the lines that only the target set names (R116). -/
theorem length_cueUnion (ascending : list.Pairwise fun a b => a.line < b.line)
    (targetsAscend : targets.Pairwise fun a b => a.1 < b.1) :
    (cueUnion list targets).length = list.length + unionAdds list targets := by
  set added := targets.filter fun t => !(list.any fun e => e.line = t.1) with hadded
  have mem_added {t : Fin 64 × Nat} : t ∈ added ↔ t ∈ targets ∧ ∀ e ∈ list, e.line ≠ t.1 := by
    simp [hadded, List.mem_filter]
  have same : ((cueUnion list targets).map RouteEntry.line).Perm (list.map RouteEntry.line ++ added.map Prod.fst) := by
    refine (List.perm_ext_iff_of_nodup (ascending_nodup_keys (cueUnion_ascending _ _)) ?_).mpr fun n => ?_
    · refine List.nodup_append.mpr ⟨ascending_nodup_keys ascending,
        ascending_nodup_keys (targetsAscend.filter _), ?_⟩
      rintro _ hl _ ht rfl
      obtain ⟨e, he, line⟩ := List.mem_map.mp hl
      obtain ⟨t, mem, rfl⟩ := List.mem_map.mp ht
      exact (mem_added.mp mem).2 e he line
    · rw [mem_lines_cueUnion, List.mem_append]
      simp only [List.mem_map, mem_added]
      constructor
      · rintro (listed | ⟨t, mem, rfl⟩)
        · exact .inl listed
        · by_cases listed : ∃ e ∈ list, e.line = t.1
          · exact .inl listed
          · exact .inr ⟨t, ⟨mem, fun e he line => listed ⟨e, he, line⟩⟩, rfl⟩
      · rintro (listed | ⟨t, ⟨mem, -⟩, rfl⟩)
        · exact .inl listed
        · exact .inr ⟨t, mem, rfl⟩
  simpa [unionAdds, List.countP_eq_length_filter] using same.length_eq

end

end Sys2Proof.Machine
end

section
/-! SUPPORT. The laws of one route list: a written list, a list under an ACTIVE cue from its activation through its ramp
steps to its completion, and a list after a Restart. -/

namespace Sys2Proof.Machine

/-! ## The entries of a lawful list (R94, R95, R117) -/

section
variable {list : List RouteEntry}

/-- The list of a lane on which no cue is ACTIVE. -/
theorem listLaw_plain_iff : ListLaw false list ↔ list.length ≤ laneRoutes ∧
    list.Pairwise (fun a b => a.line < b.line) ∧ ∀ e ∈ list, e.gain ≤ unity ∧ e.ramp = none := by
  refine and_congr_right fun _ => and_congr_right fun _ => forall₂_congr fun e _ => and_congr_right fun _ => ?_
  cases e.ramp <;> simp

/-- The list of a lane on which a cue is ACTIVE. -/
theorem listLaw_ramping_iff : ListLaw true list ↔ list.length ≤ laneRoutes ∧
    list.Pairwise (fun a b => a.line < b.line) ∧ ∀ e ∈ list, e.gain ≤ unity ∧
      ∃ r, e.ramp = some r ∧ r.start ≤ unity ∧ r.target ≤ unity ∧ (r.leaving = true → r.target = 0) := by
  refine and_congr_right fun _ => and_congr_right fun _ => forall₂_congr fun e _ => and_congr_right fun _ => ?_
  cases e.ramp with
  | none => simp
  | some r => cases hr : r.leaving <;> simp [hr, and_assoc]

theorem ListLaw.gain_le {ramping : Bool} (h : ListLaw ramping list) {e : RouteEntry} (he : e ∈ list) :
    e.gain ≤ unity := by
  obtain ⟨-, -, entries⟩ := h
  obtain ⟨gain, -⟩ := entries e he
  exact gain

theorem listLaw_plainEntries {targets : List (Fin 64 × Nat)} (short : targets.length ≤ laneRoutes)
    (ascending : targets.Pairwise fun a b => a.1 < b.1) (gains : ∀ t ∈ targets, t.2 ≤ unity) :
    ListLaw false (plainEntries targets) := by
  refine listLaw_plain_iff.mpr ⟨by simpa using short, plainEntries_ascending ascending, fun e he => ?_⟩
  obtain ⟨plain, mem⟩ := mem_plainEntries.mp he
  exact ⟨gains _ mem, plain⟩

theorem length_endRamp_le (list : List RouteEntry) : (endRamp list).length ≤ list.length :=
  (List.length_map _).trans_le (List.length_filter_le _ _)

/-- Ending a ramp leaves a list without ramp fields (R120). -/
theorem ListLaw.endRamp {ramping : Bool} (h : ListLaw ramping list) : ListLaw false (endRamp list) := by
  have gains (e : RouteEntry) (he : e ∈ list) := h.gain_le he
  obtain ⟨short, ascending, -⟩ := h
  refine listLaw_plain_iff.mpr ⟨(length_endRamp_le list).trans short, List.pairwise_map.mpr (ascending.filter _),
    fun e he => ?_⟩
  obtain ⟨f, mem, -, rfl⟩ := mem_endRamp.mp he
  exact ⟨gains f mem, rfl⟩

/-! ## Operations on the entries of a list -/

theorem RouteEntry.rampTo_ramp (k n : Nat) (e : RouteEntry) : (e.rampTo k n).ramp = e.ramp := by
  unfold RouteEntry.rampTo
  split <;> rfl

theorem RouteEntry.toTarget_ramp (e : RouteEntry) : e.toTarget.ramp = e.ramp := by
  unfold RouteEntry.toTarget
  split <;> rfl

/-- An operation on the entries that keeps their lines and ramp fields, and their gains up to unity. -/
theorem ListLaw.map {ramping : Bool} (h : ListLaw ramping list) {f : RouteEntry → RouteEntry}
    (line : ∀ e, (f e).line = e.line) (ramp : ∀ e, (f e).ramp = e.ramp) (gain : ∀ e ∈ list, (f e).gain ≤ unity) :
    ListLaw ramping (list.map f) := by
  obtain ⟨short, ascending, entries⟩ := h
  refine ⟨(List.length_map _).trans_le short, List.pairwise_map.mpr (by simpa only [line] using ascending), ?_⟩
  rintro _ hf
  obtain ⟨e, he, rfl⟩ := List.mem_map.mp hf
  obtain ⟨-, fields⟩ := entries e he
  rw [ramp]
  exact ⟨gain e he, fields⟩

/-- A gain taken to its target is up to unity. -/
theorem ListLaw.toTarget {ramping : Bool} (h : ListLaw ramping list) :
    ListLaw ramping (list.map RouteEntry.toTarget) := by
  refine h.map RouteEntry.toTarget_line RouteEntry.toTarget_ramp fun e he => ?_
  cases hr : e.ramp with
  | none => simpa only [RouteEntry.toTarget, hr] using h.gain_le he
  | some r =>
    obtain ⟨-, -, entries⟩ := h
    obtain ⟨-, -, fields⟩ := entries e he
    simp only [hr, Option.all_some, Bool.and_eq_true, decide_eq_true_eq] at fields
    obtain ⟨⟨-, target⟩, -⟩ := fields
    rwa [RouteEntry.toTarget_of_ramp hr]

/-- A Restart completes a ramp at once (R102). -/
theorem ListLaw.restart {ramping : Bool} (h : ListLaw ramping list) : ListLaw false (restartList list) :=
  h.toTarget.endRamp

theorem length_restartList_le (list : List RouteEntry) : (restartList list).length ≤ list.length :=
  (length_endRamp_le _).trans_eq (List.length_map _)

/-! ## A list while a cue is ACTIVE on its lane (R116, R117, R119) -/

/-- The lines and targets of the entries that stay. -/
def stayingTargets (list : List RouteEntry) : List (Fin 64 × Nat) :=
  (list.filter fun e => !e.leaving).map fun e => (e.line, (e.ramp.map Ramp.target).getD 0)

theorem rampLaw_iff {c : Cue} {k : Nat} : RampLaw list c k ↔ k ≤ c.ramp ∧
    (∀ e ∈ list, ∀ r, e.ramp = some r → e.gain = stepGain r k c.ramp) ∧ stayingTargets list = c.targets := by
  simp only [RampLaw, Option.all_eq_true, beq_iff_eq]
  rfl

theorem stayingTargets_map {f : RouteEntry → RouteEntry} (line : ∀ e, (f e).line = e.line)
    (ramp : ∀ e, (f e).ramp = e.ramp) (list : List RouteEntry) : stayingTargets (list.map f) = stayingTargets list := by
  simp only [stayingTargets, List.filter_map, List.map_map, Function.comp_def, RouteEntry.leaving, line, ramp]

/-- A ramp step takes the list to the next step (R119). -/
theorem RampLaw.step {c : Cue} {k : Nat} (h : RampLaw list c k) (more : k < c.ramp) :
    RampLaw (list.map (RouteEntry.rampTo (k + 1) c.ramp)) c (k + 1) := by
  obtain ⟨-, -, targets⟩ := rampLaw_iff.mp h
  refine rampLaw_iff.mpr ⟨more, fun e he r hr => ?_, ?_⟩
  · obtain ⟨f, -, rfl⟩ := List.mem_map.mp he
    obtain ⟨-, gain⟩ := RouteEntry.rampTo_of_ramp hr
    rw [gain, stepGain, if_neg (by omega)]
  · rwa [stayingTargets_map (RouteEntry.rampTo_line _ _) (RouteEntry.rampTo_ramp _ _)]

/-- A gain on its way lies between two gains up to unity (R119). -/
theorem ListLaw.rampTo (h : ListLaw true list) {k n : Nat} (hk : k ≤ n) :
    ListLaw true (list.map (RouteEntry.rampTo k n)) := by
  refine h.map (RouteEntry.rampTo_line k n) (RouteEntry.rampTo_ramp k n) fun e he => ?_
  obtain ⟨-, -, entries⟩ := listLaw_ramping_iff.mp h
  obtain ⟨-, r, hr, start, target, -⟩ := entries e he
  obtain ⟨-, gain⟩ := RouteEntry.rampTo_of_ramp ((RouteEntry.rampTo_ramp k n e).trans hr)
  obtain ⟨-, below⟩ := rampGain_between (start := r.start) (target := r.target) hk
  rw [gain]
  exact below.trans (max_le start target)

/-! ### The union (R116, R117) -/

section
variable {targets : List (Fin 64 × Nat)}

/-- An entry of the union has the fields of a ramp that starts at its gain, which the list gives, and goes to its
target, which the cue gives. -/
theorem unionEntry_fields (gains : ∀ e ∈ list, e.gain ≤ unity) (bounds : ∀ t ∈ targets, t.2 ≤ unity) {n : Fin 64}
    {e : RouteEntry} (h : unionEntry list targets n = some e) : e.gain ≤ unity ∧
      ∃ r, e.ramp = some r ∧ r.start ≤ unity ∧ r.target ≤ unity ∧ (r.leaving = true → r.target = 0) := by
  have zero : 0 ≤ unity := Nat.zero_le _
  unfold unionEntry at h
  split at h
  next e t he ht =>
    have gain := gains e (List.mem_of_find?_eq_some he)
    have target := bounds t (List.mem_of_find?_eq_some ht)
    cases h
    exact ⟨gain, _, rfl, gain, target, nofun⟩
  next e he _ =>
    have gain := gains e (List.mem_of_find?_eq_some he)
    cases h
    exact ⟨gain, _, rfl, gain, zero, fun _ => rfl⟩
  next t _ ht =>
    have target := bounds t (List.mem_of_find?_eq_some ht)
    cases h
    exact ⟨zero, _, rfl, zero, target, nofun⟩
  next => cases h

theorem listLaw_cueUnion (short : (cueUnion list targets).length ≤ laneRoutes) (gains : ∀ e ∈ list, e.gain ≤ unity)
    (bounds : ∀ t ∈ targets, t.2 ≤ unity) : ListLaw true (cueUnion list targets) := by
  refine listLaw_ramping_iff.mpr ⟨short, cueUnion_ascending list targets, fun e he => ?_⟩
  obtain ⟨n, -, hn⟩ := List.mem_filterMap.mp he
  exact unionEntry_fields gains bounds hn

/-- The entries of the union that stay are the target set (R116). -/
theorem stayingTargets_cueUnion (ascending : targets.Pairwise fun a b => a.1 < b.1) :
    stayingTargets (cueUnion list targets) = targets := by
  have entry (n : Fin 64) : ((unionEntry list targets n).filter fun e => !e.leaving).map
      (fun e => (e.line, (e.ramp.map Ramp.target).getD 0)) = targets.find? fun t => t.1 = n := by
    unfold unionEntry
    split
    next e t _ ht => rw [ht, ← (find?_key (ascending_nodup_keys ascending)).mp ht |>.2]; rfl
    next ht => rw [ht]; rfl
    next t _ ht => rw [ht, ← (find?_key (ascending_nodup_keys ascending)).mp ht |>.2]; rfl
    next ht => rw [ht]; rfl
  simp only [stayingTargets, cueUnion, List.filter_filterMap, List.map_filterMap, entry]
  exact filterMap_find?_of_ascending ascending

theorem length_installed (ramp : Nat) (union : List RouteEntry) : (installed ramp union).length = union.length := by
  rw [installed_eq, List.length_map]

theorem ListLaw.installed (h : ListLaw true list) (ramp : Nat) : ListLaw true (installed ramp list) := by
  unfold Machine.installed
  split
  · exact h.toTarget
  · exact h

theorem stayingTargets_installed (ramp : Nat) (list : List RouteEntry) :
    stayingTargets (installed ramp list) = stayingTargets list := by
  unfold installed
  split
  · exact stayingTargets_map RouteEntry.toTarget_line RouteEntry.toTarget_ramp list
  · rfl

end

/-- The union as it is installed is at step 0 of the cue's ramp (R116, R117). -/
theorem rampLaw_installed {c : Cue} (lawful : c.Law) (list : List RouteEntry) :
    RampLaw (installed c.ramp (cueUnion list c.targets)) c 0 := by
  obtain ⟨-, -, -, ascending, -⟩ := lawful
  obtain ⟨-, gains⟩ := ramping_installed c list c.targets
  refine rampLaw_iff.mpr ⟨Nat.zero_le _, fun e he r hr => ?_, ?_⟩
  · obtain ⟨gain, -⟩ := gains e he r hr
    exact gain
  · rw [stayingTargets_installed, stayingTargets_cueUnion ascending]

end

end Sys2Proof.Machine
end

section
/-! SUPPORT. The laws of the route table and the cue table, kept by every operation of the part, and so by every step.
Within a house sample, between the ramp steps and the completions, a cue may stand at step N: `TableLaw` is what holds
there too, and `EndsTaken` is what `RouteLaw` adds between house samples. -/

namespace Sys2Proof.Machine

/-! ## The laws, slot by slot and list by list -/

/-- A slot's record by itself (R109). -/
def CueSlot.RecordLaw (slot : CueSlot) : Prop := slot.late ≤ 65535 ∧ ∀ c ∈ slot.cue?, c.Law

theorem CueSlot.recordLaw_of_cue {slot : CueSlot} {c : Cue} (cue : slot.cue? = some c) (late : slot.late ≤ 65535)
    (lawful : c.Law) : slot.RecordLaw :=
  ⟨late, fun _ hd => Option.some.inj (cue.symm.trans hd) ▸ lawful⟩

/-- The laws of the route table and the cue table at every point of a house sample. -/
structure TableLaw (s : State) : Prop where
  lists : ∀ l : Fin 48, ListLaw (cueActiveOn s.cues l) s.routes[l]
  unique : ∀ i j : Fin 32, s.cues[i].rampLane? ≠ none → s.cues[i].rampLane? = s.cues[j].rampLane? → i = j
  records : ∀ i : Fin 32, s.cues[i].RecordLaw
  ramps : ∀ (i : Fin 32) (c : Cue) (k : Nat), s.cues[i].ramping? = some (c, k) → RampLaw s.routes[c.lane] c k
  pool : poolUsed s.routes ≤ routePool

/-- A cue at step N is one whose lane has made its activation of the house sample to come. -/
def EndsTaken (s : State) (i : Fin 32) : Prop :=
  ∀ (c : Cue) (k : Nat), s.cues[i].ramping? = some (c, k) → k = c.ramp → s.cueTaken[c.lane] = true

theorem routeLaw_iff {s : State} : RouteLaw s ↔ TableLaw s ∧ ∀ i, EndsTaken s i := by
  constructor
  · rintro ⟨lists, pool, unique, slots⟩
    refine ⟨⟨lists, unique, fun i => ?_, fun i c k active => ?_, pool⟩, fun i c k active => ?_⟩
    · obtain ⟨late, cue, -⟩ := slots i
      exact ⟨late, fun c hc => cue c (Option.mem_toList.mpr hc)⟩
    · obtain ⟨-, -, ramping⟩ := slots i
      obtain ⟨ramp, -⟩ := ramping (c, k) (Option.mem_toList.mpr active)
      exact ramp
    · obtain ⟨-, -, ramping⟩ := slots i
      obtain ⟨-, taken⟩ := ramping (c, k) (Option.mem_toList.mpr active)
      exact taken
  · rintro ⟨⟨lists, unique, records, ramps, pool⟩, ends⟩
    refine ⟨lists, pool, unique, fun i => ?_⟩
    obtain ⟨late, cue⟩ := records i
    refine ⟨late, fun c hc => cue c (Option.mem_toList.mp hc), fun ⟨c, k⟩ hp => ?_⟩
    have active := Option.mem_toList.mp hp
    exact ⟨ramps i c k active, ends i c k active⟩

theorem CueSlot.ramping?_eq_some {slot : CueSlot} {c : Cue} {k : Nat} :
    slot.ramping? = some (c, k) ↔ ∃ h late, slot = .active c k h late := by
  cases slot <;> simp [CueSlot.ramping?]

theorem CueSlot.rampLane?_of_ramping {slot : CueSlot} {c : Cue} {k : Nat} (h : slot.ramping? = some (c, k)) :
    slot.rampLane? = some c.lane := by
  rw [CueSlot.rampLane?, h]
  rfl

theorem cueActiveOn_iff {cues : Vector CueSlot 32} {n : Fin 48} :
    cueActiveOn cues n = true ↔ ∃ i : Fin 32, cues[i].rampLane? = some n := by
  simp [cueActiveOn, List.any_eq_true, CueSlot.activeOn_iff]

/-- A cue is ACTIVE on the same lanes where the slots stand on the same lanes. -/
theorem cueActiveOn_congr {cues cues' : Vector CueSlot 32} {n : Fin 48}
    (h : ∀ i : Fin 32, cues'[i].rampLane? = some n ↔ cues[i].rampLane? = some n) :
    cueActiveOn cues' n = cueActiveOn cues n := by
  rw [Bool.eq_iff_iff, cueActiveOn_iff, cueActiveOn_iff]
  exact exists_congr h

/-! ### One slot's record changes -/

section
variable {cues : Vector CueSlot 32} {i : Fin 32} {n : Fin 48} {slot : CueSlot}

/-- A slot that is not ACTIVE, before or after, changes no ramp. -/
theorem ramping?_set_idle (before : cues[i].ramping? = none) (after : slot.ramping? = none) (j : Fin 32) :
    (cues.set i slot)[j].ramping? = cues[j].ramping? := by
  by_cases hj : j = i
  · rw [hj, getElem_set_self, before, after]
  · rw [getElem_set_of_ne _ hj]

/-- On a lane that no other slot has, a cue is ACTIVE exactly where this slot is. -/
theorem cueActiveOn_set_self (after : slot.rampLane? = none ∨ slot.rampLane? = some n)
    (others : ∀ j, j ≠ i → cues[j].rampLane? ≠ some n) :
    cueActiveOn (cues.set i slot) n = slot.rampLane?.isSome := by
  have own : (cues.set i slot)[i].rampLane? = slot.rampLane? := by rw [getElem_set_self]
  rw [Bool.eq_iff_iff, cueActiveOn_iff]
  constructor
  · rintro ⟨j, hj⟩
    by_cases hji : j = i
    · rw [hji, own] at hj
      rw [hj]
      rfl
    · rw [getElem_set_of_ne _ hji] at hj
      exact absurd hj (others j hji)
  · intro active
    exact ⟨i, own.trans (after.resolve_left (Option.isSome_iff_ne_none.mp active))⟩

/-- On the lanes that the slot has neither before nor after, nothing changes. -/
theorem cueActiveOn_set_of_ne {l : Fin 48} (hl : l ≠ n) (before : cues[i].rampLane? = none ∨ cues[i].rampLane? = some n)
    (after : slot.rampLane? = none ∨ slot.rampLane? = some n) :
    cueActiveOn (cues.set i slot) l = cueActiveOn cues l := by
  have not_here {o : Option (Fin 48)} (h : o = none ∨ o = some n) : o ≠ some l := by
    rcases h with rfl | rfl
    · nofun
    · exact fun same => hl (Option.some.inj same).symm
  refine cueActiveOn_congr fun j => ?_
  by_cases hj : j = i
  · rw [hj, getElem_set_self]
    exact iff_of_false (not_here after) (not_here before)
  · rw [getElem_set_of_ne _ hj]

/-- At most one slot is ACTIVE on a lane, also with a slot on a lane that no other has. -/
theorem rampLane?_unique_set
    (unique : ∀ a b : Fin 32, cues[a].rampLane? ≠ none → cues[a].rampLane? = cues[b].rampLane? → a = b)
    (after : slot.rampLane? = none ∨ slot.rampLane? = some n) (others : ∀ j, j ≠ i → cues[j].rampLane? ≠ some n)
    (a b : Fin 32) (active : (cues.set i slot)[a].rampLane? ≠ none)
    (same : (cues.set i slot)[a].rampLane? = (cues.set i slot)[b].rampLane?) : a = b := by
  have apart {j : Fin 32} (hj : j ≠ i) (active : slot.rampLane? ≠ none) : slot.rampLane? ≠ cues[j].rampLane? := by
    rw [after.resolve_left active]
    exact (others j hj).symm
  by_cases ha : a = i <;> by_cases hb : b = i
  · rw [ha, hb]
  · rw [ha, getElem_set_self] at active same
    rw [getElem_set_of_ne _ hb] at same
    exact absurd same (apart hb active)
  · rw [hb, getElem_set_self] at same
    rw [getElem_set_of_ne _ ha] at active same
    exact absurd same.symm (apart ha (same ▸ active))
  · rw [getElem_set_of_ne _ ha] at active same
    rw [getElem_set_of_ne _ hb] at same
    exact unique a b active same

end

/-! ## The pool (R96) -/

theorem poolUsed_eq_sum (routes : Vector (List RouteEntry) 48) : poolUsed routes = ∑ l : Fin 48, routes[l].length :=
  (Fin.sum_univ_def fun l : Fin 48 => routes[l].length).symm

theorem poolUsed_set (routes : Vector (List RouteEntry) 48) (n : Fin 48) (list : List RouteEntry) :
    poolUsed (routes.set n list) + routes[n].length = poolUsed routes + list.length := by
  have others : ∑ l ∈ Finset.univ.erase n, (routes.set n list)[l].length =
      ∑ l ∈ Finset.univ.erase n, routes[l].length :=
    Finset.sum_congr rfl fun l hl => by rw [getElem_set_of_ne _ (Finset.ne_of_mem_erase hl)]
  rw [poolUsed_eq_sum, poolUsed_eq_sum, ← Finset.add_sum_erase _ _ (Finset.mem_univ n),
    ← Finset.add_sum_erase _ _ (Finset.mem_univ n), others, getElem_set_self]
  omega

theorem poolUsed_mono {routes routes' : Vector (List RouteEntry) 48}
    (h : ∀ l : Fin 48, routes'[l].length ≤ routes[l].length) : poolUsed routes' ≤ poolUsed routes := by
  rw [poolUsed_eq_sum, poolUsed_eq_sum]
  exact Finset.sum_le_sum fun l _ => h l

theorem poolFits_iff {used present next : Nat} :
    poolFits used present next = true ↔ used + next ≤ routePool + present :=
  decide_eq_true_iff

/-! ## What keeps the tables' laws -/

section
variable {s t : State}

/-- The slots' records change, but no ramp does. -/
theorem TableLaw.of_ramps (hs : TableLaw s) (routes : t.routes = s.routes)
    (ramping : ∀ i : Fin 32, t.cues[i].ramping? = s.cues[i].ramping?) (records : ∀ i : Fin 32, t.cues[i].RecordLaw) :
    TableLaw t := by
  have lane (i : Fin 32) : t.cues[i].rampLane? = s.cues[i].rampLane? := by
    rw [CueSlot.rampLane?, ramping, CueSlot.rampLane?]
  refine ⟨fun l => ?_, fun i j => ?_, records, fun i c k active => ?_, routes ▸ hs.pool⟩
  · rw [cueActiveOn_congr (cues := s.cues) fun i => by rw [lane], routes]
    exact hs.lists l
  · rw [lane, lane]
    exact hs.unique i j
  · rw [routes]
    exact hs.ramps i c k (ramping i ▸ active)

theorem TableLaw.of_same (hs : TableLaw s) (routes : t.routes = s.routes) (cues : t.cues = s.cues) : TableLaw t :=
  hs.of_ramps routes (fun i => by rw [cues]) fun i => cues ▸ hs.records i

/-- A slot that is not ACTIVE gets another record, which is not ACTIVE either. -/
theorem TableLaw.withIdleCue (hs : TableLaw s) {i : Fin 32} {slot : CueSlot} (before : s.cues[i].ramping? = none)
    (after : slot.ramping? = none) (record : slot.RecordLaw) : TableLaw (s.withCue i slot) :=
  hs.of_ramps rfl (ramping?_set_idle before after) (forall_set hs.records i record)

/-- The list of a lane on which no cue is ACTIVE is replaced, and the pool has room (R96). -/
theorem TableLaw.withRoutes (hs : TableLaw s) {n : Fin 48} {list : List RouteEntry}
    (idle : cueActiveOn s.cues n = false) (lawful : ListLaw false list)
    (fits : poolUsed s.routes + list.length ≤ routePool + s.routes[n].length) : TableLaw (s.withRoutes n list) := by
  refine ⟨fun l => ?_, hs.unique, hs.records, fun i c k active => ?_, ?_⟩
  · by_cases hl : l = n
    · rwa [hl, State.withRoutes_cues, idle, State.withRoutes_routes, getElem_set_self]
    · rw [State.withRoutes_routes, getElem_set_of_ne _ hl]
      exact hs.lists l
  · have elsewhere : c.lane ≠ n := fun lane =>
      cueActiveOn_eq_false.mp idle i (lane ▸ CueSlot.rampLane?_of_ramping active)
    rw [State.withRoutes_routes, getElem_set_of_ne _ elsewhere]
    exact hs.ramps i c k active
  · have used := poolUsed_set s.routes n list
    rw [State.withRoutes_routes]
    omega

/-- A slot that has no other lane than `n` comes to be ACTIVE on `n`, ramps on it or leaves it, with a new list there
and no other slot ACTIVE on it (R116, R117, R119, R120). -/
theorem TableLaw.withRamp (hs : TableLaw s) {i : Fin 32} {n : Fin 48} {slot : CueSlot} {list : List RouteEntry}
    (before : s.cues[i].rampLane? = none ∨ s.cues[i].rampLane? = some n)
    (after : slot.rampLane? = none ∨ slot.rampLane? = some n) (others : ∀ j, j ≠ i → s.cues[j].rampLane? ≠ some n)
    (lawful : ListLaw slot.rampLane?.isSome list)
    (fits : poolUsed s.routes + list.length ≤ routePool + s.routes[n].length) (record : slot.RecordLaw)
    (ramp : ∀ c k, slot.ramping? = some (c, k) → RampLaw list c k) :
    TableLaw ((s.withRoutes n list).withCue i slot) := by
  refine ⟨fun l => ?_, rampLane?_unique_set hs.unique after others, forall_set hs.records i record,
    fun j c k active => ?_, ?_⟩ <;>
    simp only [State.withCue_cues, State.withRoutes_cues, State.withCue_routes, State.withRoutes_routes] at *
  · by_cases hl : l = n
    · subst hl
      rwa [cueActiveOn_set_self after others, getElem_set_self]
    · rw [getElem_set_of_ne _ hl, cueActiveOn_set_of_ne hl before after]
      exact hs.lists l
  · by_cases hj : j = i
    · rw [hj, getElem_set_self] at active
      have lane := CueSlot.rampLane?_of_ramping active
      obtain rfl : c.lane = n := Option.some.inj (lane.symm.trans (after.resolve_left (lane ▸ nofun)))
      rw [getElem_set_self]
      exact ramp c k active
    · rw [getElem_set_of_ne _ hj] at active
      have elsewhere : c.lane ≠ n := fun lane => others j hj (lane ▸ CueSlot.rampLane?_of_ramping active)
      rw [getElem_set_of_ne _ elsewhere]
      exact hs.ramps j c k active
  · have used := poolUsed_set s.routes n list
    omega

end

/-! ## A ramp step and a completion (R119, R120) -/

section
variable {s : State} {i : Fin 32} {c : Cue} {k : Nat} {h : Word32} {late : Nat}

/-- The list of a lane on which a cue is ACTIVE. -/
theorem TableLaw.list_of_active (hs : TableLaw s) (active : s.cues[i] = .active c k h late) :
    ListLaw true s.routes[c.lane] := by
  have lawful := hs.lists c.lane
  rwa [cueActiveOn_iff.mpr ⟨i, by rw [active, CueSlot.rampLane?_active]⟩] at lawful

theorem TableLaw.others_of_active (hs : TableLaw s) (active : s.cues[i] = .active c k h late) (j : Fin 32)
    (hj : j ≠ i) : s.cues[j].rampLane? ≠ some c.lane := fun same =>
  hj (hs.unique j i (same ▸ nofun) (by rw [same, active, CueSlot.rampLane?_active]))

theorem TableLaw.ramp_of_active (hs : TableLaw s) (active : s.cues[i] = .active c k h late) :
    RampLaw s.routes[c.lane] c k := hs.ramps i c k (CueSlot.ramping?_eq_some.mpr ⟨h, late, active⟩)

theorem TableLaw.record_of_active (hs : TableLaw s) (active : s.cues[i] = .active c k h late) :
    late ≤ 65535 ∧ c.Law := by
  have record := hs.records i
  rw [active] at record
  obtain ⟨late, cue⟩ := record
  exact ⟨late, cue c rfl⟩

/-- A slot that has not reached step N takes its ramp step. -/
theorem TableLaw.rampStep (hs : TableLaw s) (ends : EndsTaken s i) : TableLaw (rampStep i s) := by
  rcases rampStep_cases i s with same | ⟨c, k, h, late, active, free, stepped⟩
  · rwa [same]
  obtain ⟨within, -⟩ := hs.ramp_of_active active
  have more : k < c.ramp := lt_of_le_of_ne within fun ended => by
    have taken := ends c k (CueSlot.ramping?_eq_some.mpr ⟨h, late, active⟩) ended
    exact Bool.false_ne_true (free.symm.trans taken)
  obtain ⟨lateness, lawful⟩ := hs.record_of_active active
  have record : (CueSlot.active c (k + 1) h late).RecordLaw := CueSlot.recordLaw_of_cue rfl lateness lawful
  rw [stepped]
  refine hs.withRamp (.inr (by rw [active, CueSlot.rampLane?_active])) (.inr rfl) (hs.others_of_active active)
    ((hs.list_of_active active).rampTo more) ?_ record ?_
  · rw [List.length_map]
    exact Nat.add_le_add_right hs.pool _
  · rintro _ _ ⟨⟩
    exact (hs.ramp_of_active active).step more

theorem TableLaw.completeCue (hs : TableLaw s) (i : Fin 32) : TableLaw (completeCue i s) := by
  rcases completeCue_cases i s with same | ⟨c, h, late, active, completed⟩
  · rwa [same]
  obtain ⟨lateness, lawful⟩ := hs.record_of_active active
  have record : (CueSlot.spent c .completed late (some h)).RecordLaw :=
    CueSlot.recordLaw_of_cue rfl lateness lawful
  have fits : poolUsed s.routes + (endRamp s.routes[c.lane]).length ≤ routePool + s.routes[c.lane].length :=
    Nat.add_le_add hs.pool (length_endRamp_le _)
  have ended := hs.withRamp (.inr (by rw [active, CueSlot.rampLane?_active])) (.inl rfl) (hs.others_of_active active)
    (hs.list_of_active active).endRamp fits record nofun
  rw [completed]
  exact ended.of_same rfl rfl

end

/-! ## An activation (R114 to R118) -/

theorem lateness_le (h due : Word32) : lateness h due ≤ 65535 := Nat.min_le_right _ _

theorem unionFits_iff {used : Nat} {list : List RouteEntry} {targets : List (Fin 64 × Nat)} :
    unionFits used list targets = true ↔
      (cueUnion list targets).length ≤ laneRoutes ∧ used + unionAdds list targets ≤ routePool := by
  simp only [unionFits, Bool.and_eq_true, decide_eq_true_eq]

section
variable {s : State} {i : Fin 32} {c : Cue}

/-- A slot ARMED for a lane on which no cue is ACTIVE is installed, cut, or ends with NOROOM. -/
theorem TableLaw.runWinner (hs : TableLaw s) (armed : s.cues[i] = .armed c) (idle : cueActiveOn s.cues c.lane = false)
    (h : Word32) : TableLaw (runWinner i c h s) := by
  have record := hs.records i
  rw [armed] at record
  obtain ⟨-, lawful⟩ := record
  have lawful := lawful c rfl
  have late := lateness_le h c.due
  have list := hs.lists c.lane
  rw [idle] at list
  have ⟨_, listAscends, _⟩ := list
  have ⟨_, _, short, ascending, bounds⟩ := lawful
  have waiting : s.cues[i].ramping? = none := by rw [armed]; rfl
  have spent (outcome : CueOutcome) : (CueSlot.spent c outcome (lateness h c.due) (some h)).RecordLaw :=
    CueSlot.recordLaw_of_cue rfl late lawful
  simp only [Machine.runWinner]
  split
  next fits =>
    obtain ⟨roomy, pool⟩ := unionFits_iff.mp fits
    refine hs.withRamp (.inl (by rw [armed]; rfl)) (.inr rfl) (fun j _ => cueActiveOn_eq_false.mp idle j)
      ((listLaw_cueUnion roomy (fun e he => list.gain_le he) bounds).installed c.ramp) ?_
      (CueSlot.recordLaw_of_cue rfl late lawful) ?_
    · rw [length_installed, length_cueUnion listAscends ascending]
      omega
    · rintro _ _ ⟨⟩
      exact rampLaw_installed lawful _
  split
  next fits =>
    have cut := hs.withRoutes idle (listLaw_plainEntries short ascending bounds)
      (by simpa using poolFits_iff.mp fits)
    exact (cut.withIdleCue waiting rfl (spent .cut)).of_same rfl rfl
  next => exact (hs.withIdleCue waiting rfl (spent .noroom)).of_same rfl rfl

theorem TableLaw.activateLane (hs : TableLaw s) (n : Fin 48) : TableLaw (activateLane n s) := by
  rcases activateLane_cases n s with same | ⟨i, c, armed, rfl, free, ran⟩
  · rwa [same]
  · rw [ran]
    exact TableLaw.runWinner (s := { s with cueTaken := s.cueTaken.set c.lane true }) (hs.of_same rfl rfl) armed
      (cueActiveOn_eq_false.mpr free) _

/-- A lane that activates has made its activation, and no other slot's lane is concerned. -/
theorem EndsTaken.activateLane (ends : ∀ i, EndsTaken s i) (n : Fin 48) (j : Fin 32) :
    EndsTaken (activateLane n s) j := by
  rcases activateLane_cases n s with same | ⟨i, c, -, rfl, -, ran⟩
  · rw [same]
    exact ends j
  obtain ⟨slot, cues, -, made⟩ := runWinner_cases i c s.hcu.count { s with cueTaken := s.cueTaken.set c.lane true }
  intro c' k active ended
  rw [ran, runWinner_cueTaken]
  by_cases hl : c'.lane = c.lane
  · simp only [hl, getElem_set_self]
  rw [getElem_set_of_ne _ hl]
  rw [ran, cues] at active
  by_cases hj : j = i
  · rw [hj, getElem_set_self] at active
    have lane := CueSlot.rampLane?_of_ramping active
    rcases made with spent | ⟨rfl, -⟩
    · exact absurd (spent.symm.trans lane) nofun
    · exact absurd (Option.some.inj lane).symm hl
  · rw [getElem_set_of_ne _ hj] at active
    exact ends j c' k active ended

end

/-! ## The house sample (R113, R119, R120) -/

/-- Each update needs its own premise, which the updates of the others keep. -/
theorem foldl_each {α : Type} {P : State → Prop} {Q : α → State → Prop} {g : State → α → State}
    (makes : ∀ t a, P t → Q a t → P (g t a)) (keeps : ∀ t a b, b ≠ a → Q b t → Q b (g t a)) {l : List α}
    (distinct : l.Nodup) {s : State} (hs : P s) (hq : ∀ a ∈ l, Q a s) : P (l.foldl g s) := by
  induction l generalizing s with
  | nil => exact hs
  | cons a l ih =>
    obtain ⟨fresh, distinct⟩ := List.nodup_cons.mp distinct
    refine ih distinct (makes s a hs (hq a List.mem_cons_self)) fun b hb => ?_
    exact keeps s a b (fun same => fresh (same ▸ hb)) (hq b (List.mem_cons_of_mem a hb))

/-- Each update brings about its own result, which all the updates keep. -/
theorem foldl_reaches {α : Type} {Q : α → State → Prop} {g : State → α → State} (makes : ∀ t a, Q a (g t a))
    (keeps : ∀ t a b, Q b t → Q b (g t a)) {l : List α} (s : State) {a : α} (ha : a ∈ l) : Q a (l.foldl g s) := by
  induction l generalizing s with
  | nil => cases ha
  | cons b l ih =>
    rcases List.mem_cons.mp ha with rfl | ha
    · exact foldl_kept (P := Q a) (fun t b => keeps t b a) l (makes s a)
    · exact ih (g s b) ha

theorem EndsTaken.rampStep_other {s : State} {i j : Fin 32} (hj : j ≠ i) (ends : EndsTaken s j) :
    EndsTaken (rampStep i s) j := by
  have kept : (rampStep i s).cues[j] = s.cues[j] := by
    rcases rampStep_cases i s with same | ⟨c, k, h, late, -, -, stepped⟩
    · rw [same]
    · rw [stepped, State.withCue_cues, getElem_set_of_ne _ hj, State.withRoutes_cues]
  intro c k active
  rw [rampStep_cueTaken]
  exact ends c k (kept ▸ active)

/-- The cue table's stage: every slot takes at most one ramp step, then the lanes activate. -/
theorem RouteLaw.cueStage {s : State} (hs : RouteLaw s) : TableLaw (cueStage s) := by
  obtain ⟨table, ends⟩ := routeLaw_iff.mp hs
  have stepped : TableLaw ((indices 32).foldl (fun t i => rampStep i t) s) :=
    foldl_each (Q := fun i t => EndsTaken t i) (fun _ _ ht hq => ht.rampStep hq)
      (fun _ _ _ hj hq => hq.rampStep_other hj) (List.nodup_finRange 32) table fun i _ => ends i
  exact foldl_kept (P := TableLaw) (fun _ n ht => ht.activateLane n) (indices 48) stepped

/-- The slot is not ACTIVE at step N. -/
def CueSlot.Underway (slot : CueSlot) : Prop := ∀ (c : Cue) (k : Nat), slot.ramping? = some (c, k) → k ≠ c.ramp

theorem completeCue_underway (i : Fin 32) (s : State) : (completeCue i s).cues[i].Underway := by
  intro c k active
  rcases completeCue_cases i s with same | ⟨c', h, late, ended, completed⟩
  · rintro rfl
    rw [same] at active
    obtain ⟨h, late, active⟩ := CueSlot.ramping?_eq_some.mp active
    have spent := congrArg (fun t : State => t.cues[i]) same
    simp only [completeCue, active, if_true, State.raise_cues, State.withCue_cues, getElem_set_self] at spent
    cases spent
  · rw [completed, State.raise_cues, State.withCue_cues, getElem_set_self] at active
    cases active

theorem completeCue_keeps_underway (i j : Fin 32) {s : State} (hs : s.cues[j].Underway) :
    (completeCue i s).cues[j].Underway := by
  rcases completeCue_cases i s with same | ⟨c, h, late, -, completed⟩
  · rwa [same]
  · rw [completed, State.raise_cues, State.withCue_cues]
    by_cases hj : j = i
    · rw [hj, getElem_set_self]
      exact nofun
    · rwa [getElem_set_of_ne _ hj]

/-- The tables' laws hold at the end of a house sample where no cue stands at step N. -/
theorem TableLaw.routeLaw {s : State} (hs : TableLaw s) (underway : ∀ i : Fin 32, s.cues[i].Underway)
    (taken : Vector Bool 48) : RouteLaw { s with cueTaken := taken } :=
  routeLaw_iff.mpr ⟨hs.of_same rfl rfl, fun i c k active ended => absurd ended (underway i c k active)⟩

/-- The completions leave no cue at step N (R120). -/
theorem TableLaw.completionStage {s : State} (hs : TableLaw s) : RouteLaw (completionStage s) := by
  have completed : TableLaw ((indices 32).foldl (fun t i => Machine.completeCue i t) s) :=
    foldl_kept (P := TableLaw) (fun _ i ht => ht.completeCue i) (indices 32) hs
  exact completed.routeLaw (fun i => foldl_reaches (Q := fun i t => t.cues[i].Underway)
    (fun t i => completeCue_underway i t) (fun _ i j hj => completeCue_keeps_underway i j hj) s (mem_indices i)) _

section
variable {s t : State}

theorem RouteLaw.of_same (hs : RouteLaw s) (routes : t.routes = s.routes) (cues : t.cues = s.cues)
    (taken : t.cueTaken = s.cueTaken) : RouteLaw t := by
  obtain ⟨table, ends⟩ := routeLaw_iff.mp hs
  refine routeLaw_iff.mpr ⟨table.of_same routes cues, fun i c k active ended => ?_⟩
  rw [taken]
  exact ends i c k (cues ▸ active) ended

/-- Slots that are not ACTIVE change, and no other does. -/
theorem RouteLaw.of_ramps (hs : RouteLaw s) (routes : t.routes = s.routes) (taken : t.cueTaken = s.cueTaken)
    (ramping : ∀ i : Fin 32, t.cues[i].ramping? = s.cues[i].ramping?) (records : ∀ i : Fin 32, t.cues[i].RecordLaw) :
    RouteLaw t := by
  obtain ⟨table, ends⟩ := routeLaw_iff.mp hs
  refine routeLaw_iff.mpr ⟨table.of_ramps routes ramping records, fun i c k active ended => ?_⟩
  rw [taken]
  exact ends i c k (ramping i ▸ active) ended

theorem RouteLaw.houseSample (hs : RouteLaw s) : RouteLaw (houseSample s) := by
  have before : RouteLaw (lanesStage (portsStage s).2 (portsStage s).1).1 :=
    hs.of_same (by simp) (by simp) (by simp)
  have mixed : TableLaw (mixStage (lanesStage (portsStage s).2 (portsStage s).1).2
      (Machine.cueStage (lanesStage (portsStage s).2 (portsStage s).1).1)).1 :=
    before.cueStage.of_same (by simp) (by simp)
  exact mixed.completionStage.of_same (by simp [Machine.houseSample, signalPath])
    (by simp [Machine.houseSample, signalPath]) (by simp [Machine.houseSample, signalPath])

theorem RouteLaw.activateLane (hs : RouteLaw s) (n : Fin 48) : RouteLaw (activateLane n s) := by
  obtain ⟨table, ends⟩ := routeLaw_iff.mp hs
  exact routeLaw_iff.mpr ⟨table.activateLane n, EndsTaken.activateLane ends n⟩

/-- A completion leaves the other slots' steps as they are. -/
theorem RouteLaw.completeCue (hs : RouteLaw s) (i : Fin 32) : RouteLaw (completeCue i s) := by
  obtain ⟨table, ends⟩ := routeLaw_iff.mp hs
  refine routeLaw_iff.mpr ⟨table.completeCue i, fun j c k active ended => ?_⟩
  rw [completeCue_cueTaken]
  rcases completeCue_cases i s with same | ⟨c', h, late, -, completed⟩
  · exact ends j c k (same ▸ active) ended
  · rw [completed, State.raise_cues, State.withCue_cues] at active
    by_cases hj : j = i
    · rw [hj, getElem_set_self] at active
      cases active
    · rw [getElem_set_of_ne _ hj] at active
      exact ends j c k active ended

/-! ## The events -/

theorem arrivalAtShut_tables (f : FaderId) (s : State) : (arrivalAtShut f s).routes = s.routes ∧
    (arrivalAtShut f s).cues = s.cues ∧ (arrivalAtShut f s).cueTaken = s.cueTaken := by
  cases f with
  | port k => simp only [arrivalAtShut]; split <;> simp
  | lane n => simp only [arrivalAtShut]; split <;> simp
  | line n => exact ⟨rfl, rfl, rfl⟩

theorem routeLaw_keptByEvents : KeptByEvents RouteLaw where
  ownFields _ _ _ hs := hs
  withHcu _ _ _ hs := hs
  raise _ _ _ hs := hs
  restartNotice _ hs := hs.of_same (by simp) (by simp) (by simp)
  houseSample _ hs := hs.houseSample
  loss k s _ hs := hs.of_same (by simp) (by simp) (by simp)
  withReceiver _ _ _ hs := hs
  portArrival _ _ _ _ hs := hs.of_same (by simp) (by simp) (by simp)
  windowComplete _ _ hs := hs.of_same (by simp) (by simp) (by simp)
  seedingEntry _ _ hs := hs.of_same (by simp) (by simp) (by simp)
  arrivalAtShut f s hs := by
    obtain ⟨routes, cues, taken⟩ := arrivalAtShut_tables f s
    exact hs.of_same routes cues taken
  activateLane n _ hs := hs.activateLane n
  completeCue i _ hs := hs.completeCue i
  pinReset _ _ := reset_routeLaw

/-! ## The requests -/

/-- What the events keep, whatever the clock's record and the ports become, a Clock Rate keeps (R12). -/
theorem KeptByEvents.takeClockRate {P : State → Prop} (kept : KeptByEvents P)
    (hcu : ∀ (h : Hcu) (s : State), P s → P (s.withHcu h))
    (ports : ∀ (v : Vector Port 6) (s : State), P s → P (s.withPorts v)) (code : Byte) {s : State} (hs : P s) :
    P (takeClockRate code s).1 := by
  unfold Machine.takeClockRate
  split
  · exact hs
  split
  · exact hs
  split
  · exact hs
  refine kept.settle ?_
  split
  · exact hcu _ _ (ports _ _ hs)
  · exact kept.restartNotice _ (hcu _ _ (ports _ _ hs))

/-- What the events keep, whatever the clock's record becomes, a Clock Source keeps (R13). -/
theorem KeptByEvents.takeClockSource {P : State → Prop} (kept : KeptByEvents P)
    (hcu : ∀ (h : Hcu) (s : State), P s → P (s.withHcu h)) (code : Byte) {s : State} (hs : P s) :
    P (takeClockSource code s).1 := by
  unfold Machine.takeClockSource
  split
  · exact hs
  split
  · exact hs
  split
  · dsimp only
    split
    · exact hcu _ _ hs
    · exact kept.settle (kept.restartNotice _ (hcu _ _ hs))
  · exact hcu _ _ hs

/-- Only Route Write, the requests that change a slot, and the two that can end a house sample change the tables. -/
def changesTables : Request → Bool
  | .clockRate _ => true
  | .clockSource _ => true
  | .routeWrite _ _ _ => true
  | .cueLoad _ _ _ _ _ _ _ _ => true
  | .cueAbort _ => true
  | .cueAbortAll => true
  | _ => false

theorem take_tables {q : Request} (hq : changesTables q = false) (s : State) : (take q s).1.routes = s.routes ∧
    (take q s).1.cues = s.cues ∧ (take q s).1.cueTaken = s.cueTaken := by
  cases q with
  | clockRate | clockSource | routeWrite | cueLoad | cueAbort | cueAbortAll => cases hq
  | identify | status | restart | countersClear | clockQuery | cueSurvey | conditionSurvey | unknown | malformed =>
    exact ⟨rfl, rfl, rfl⟩
  | _ =>
    simp only [take, takeGo, takeHalt, takePortSetup, takePortAccept, takePortQuery, takePortRevive, takeLaneBind,
      takeLaneSelect, takeLaneMute, takeLaneQuery, takeRouteQuery, takeCueQuery, takeLineSetup, takeLineMute,
      takeLineQuery, takeConditionTake, takeConditionRelease, takeConditionMask, takeConditionClear]
    repeat' split
    all_goals simp

/-- A list written to a lane on which no cue is ACTIVE (R98, R99). -/
theorem takeRouteWrite_routeLaw (hs : RouteLaw s) (lane count : Byte) (pairs : List Pair) :
    RouteLaw (takeRouteWrite lane count pairs s).1 := by
  unfold takeRouteWrite
  split
  · exact hs
  split
  · exact hs
  next n _ =>
    split
    · exact hs
    next checked =>
    split
    · exact hs
    next idle =>
    split
    · exact hs
    next fits =>
    simp only [not_or, badPairs_iff, not_not, not_exists, not_and, not_lt] at checked
    obtain ⟨short, named, distinct⟩ := checked
    have length := length_sortedPairs distinct named
    obtain ⟨table, ends⟩ := routeLaw_iff.mp hs
    have written := table.withRoutes (n := n) (list := plainEntries (sortedPairs pairs)) (by simpa using idle)
      (listLaw_plainEntries (length.trans_le short) (sortedPairs_ascending pairs) fun t => sortedPairs_le_unity)
      (by simpa [length, poolFits_iff] using fits)
    exact routeLaw_iff.mpr ⟨written, ends⟩

/-- A slot that is not ACTIVE gets another record that is not (R111, R122). -/
theorem RouteLaw.withIdleCue (hs : RouteLaw s) {i : Fin 32} {slot : CueSlot} (before : s.cues[i].ramping? = none)
    (after : slot.ramping? = none) (record : slot.RecordLaw) : RouteLaw (s.withCue i slot) := by
  obtain ⟨table, -⟩ := routeLaw_iff.mp hs
  exact hs.of_ramps rfl rfl (ramping?_set_idle before after) (table.withIdleCue before after record).records

theorem CueSlot.ramping?_of_not_busy {slot : CueSlot} (h : ¬slot.busy = true) : slot.ramping? = none := by
  cases slot with
  | active => exact absurd rfl h
  | _ => rfl

theorem takeCueLoad_routeLaw (hs : RouteLaw s) (slot lane priority dueNow : Byte) (due : Word32) (ramp : Word16)
    (count : Byte) (pairs : List Pair) :
    RouteLaw (takeCueLoad slot lane priority dueNow due ramp count pairs s).1 := by
  unfold takeCueLoad
  split
  · exact hs
  split
  next i n now _ _ _ =>
    split
    · exact hs
    next checked =>
    split
    · exact hs
    next waiting =>
    simp only [not_or, badPairs_iff, not_not, not_exists, not_and, not_lt] at checked
    obtain ⟨short, named, distinct⟩ := checked
    refine hs.withIdleCue (CueSlot.ramping?_of_not_busy waiting) rfl
      (CueSlot.recordLaw_of_cue rfl (Nat.zero_le _) ?_)
    exact ⟨Nat.le_of_lt_succ priority.isLt, Nat.le_of_lt_succ ramp.isLt,
      (length_sortedPairs distinct named).trans_le short, sortedPairs_ascending pairs, fun t => sortedPairs_le_unity⟩
  next => exact hs

theorem CueSlot.RecordLaw.abort {slot : CueSlot} (h : slot.RecordLaw) (count : Word32) :
    (slot.abort count).RecordLaw ∧ (slot.abort count).ramping? = slot.ramping? := by
  cases slot with
  | armed c =>
    obtain ⟨-, cue⟩ := h
    refine ⟨⟨?_, fun d hd => cue d hd⟩, rfl⟩
    simp only [CueSlot.abort, abortedSlot, CueSlot.late]
    split
    · exact lateness_le _ _
    · exact Nat.zero_le _
  | _ => exact ⟨h, rfl⟩

theorem takeCueAbort_routeLaw (hs : RouteLaw s) (slot : Byte) : RouteLaw (takeCueAbort slot s).1 := by
  unfold takeCueAbort
  split
  · exact hs
  next i _ =>
    split
    next c armed =>
      obtain ⟨table, -⟩ := routeLaw_iff.mp hs
      have record := table.records i
      rw [armed] at record
      obtain ⟨aborted, -⟩ := record.abort s.hcu.count
      exact (hs.withIdleCue (by rw [armed]; rfl) rfl aborted).of_same rfl rfl rfl
    next => exact hs
    next => exact hs

theorem takeCueAbortAll_routeLaw (hs : RouteLaw s) : RouteLaw (takeCueAbortAll s).1 := by
  obtain ⟨table, -⟩ := routeLaw_iff.mp hs
  have slots (i : Fin 32) : (takeCueAbortAll s).1.cues[i] = s.cues[i].abort s.hcu.count := by
    simp [takeCueAbortAll]
  refine hs.of_ramps (by simp [takeCueAbortAll]) (by simp [takeCueAbortAll]) (fun i => ?_) fun i => ?_
  · obtain ⟨-, same⟩ := (table.records i).abort s.hcu.count
    rw [slots, same]
  · obtain ⟨record, -⟩ := (table.records i).abort s.hcu.count
    rwa [slots]

theorem take_routeLaw (hs : RouteLaw s) (q : Request) : RouteLaw (take q s).1 := by
  cases hq : changesTables q with
  | false =>
    obtain ⟨routes, cues, taken⟩ := take_tables hq s
    exact hs.of_same routes cues taken
  | true =>
    cases q with
    | clockRate code =>
      exact routeLaw_keptByEvents.takeClockRate (fun _ _ ht => ht)
        (fun _ _ ht => ht.of_same (by simp) (by simp) (by simp)) code hs
    | clockSource code => exact routeLaw_keptByEvents.takeClockSource (fun _ _ ht => ht) code hs
    | routeWrite lane count pairs => exact takeRouteWrite_routeLaw hs lane count pairs
    | cueLoad slot lane priority dueNow due ramp count pairs =>
      exact takeCueLoad_routeLaw hs slot lane priority dueNow due ramp count pairs
    | cueAbort slot => exact takeCueAbort_routeLaw hs slot
    | cueAbortAll => exact takeCueAbortAll_routeLaw hs
    | _ => cases hq

/-- A Restart completes every ramp at once and frees every slot (R102, R153). -/
theorem executeRestart_routeLaw (hs : RouteLaw s) : RouteLaw (executeRestart s) := by
  obtain ⟨table, -⟩ := routeLaw_iff.mp hs
  have free (i : Fin 32) : (executeRestart s).cues[i] = .free := by simp [executeRestart]
  have idle (l : Fin 48) : cueActiveOn (executeRestart s).cues l = false :=
    cueActiveOn_eq_false.mpr fun i => by rw [free]; nofun
  have none (i : Fin 32) : (executeRestart s).cues[i].ramping? = none := by rw [free]; rfl
  refine routeLaw_iff.mpr ⟨⟨fun l => ?_, fun i j active => ?_, fun i => ?_, fun i c k active => ?_, ?_⟩,
    fun i c k active => ?_⟩
  · rw [idle, executeRestart_routes]
    exact (table.lists l).restart
  · rw [free] at active
    exact absurd rfl active
  · rw [free]
    exact ⟨Nat.zero_le _, nofun⟩
  · rw [none] at active
    cases active
  · refine le_trans (poolUsed_mono fun l => ?_) table.pool
    rw [executeRestart_routes]
    exact length_restartList_le _
  · rw [none] at active
    cases active

theorem routeLaw_keptByRequests : KeptByRequests RouteLaw where
  take q _ hs := take_routeLaw hs q
  restart _ hs := executeRestart_routeLaw hs
  withLink _ _ hs := hs
  linkFault _ _ _ hs := hs

end

/-- Settles O56: every operation of the part keeps the laws of the route lists, the pool and the cue slots. -/
theorem stepKeepsRouteLaw : Obligations.StepKeepsRouteLaw := fun _ _ hs ht =>
  routeLaw_keptByEvents.step routeLaw_keptByRequests hs ht

end Sys2Proof.Machine
end

section
/-! SUPPORT. Route Write, and the queries of the route lists and the cue slots: each for a part that is ready to
answer. -/

namespace Sys2Proof.Machine

/-! ## Route Write (R98, R99) -/

section
variable {lane count : Byte} {pairs : List Pair} {s : State} {n : Fin 48}

theorem takeRouteWrite_of_disagreeing (h : count.toNat ≠ pairs.length) :
    takeRouteWrite lane count pairs s = (s, .refuse .malformed) := if_pos h

theorem takeRouteWrite_of_range (agrees : count.toNat = pairs.length) (h : 47 < lane.toNat) :
    takeRouteWrite lane count pairs s = (s, .refuse .range) := by
  simp only [takeRouteWrite, agrees, index_of_le h, ne_eq, not_true_eq_false, if_false]

/-- A Route Write whose count is that of its pairs, for a lane in range: the checks that are left, and the list. -/
theorem takeRouteWrite_of_lane (agrees : count.toNat = pairs.length) (hn : index 48 lane = some n) :
    takeRouteWrite lane count pairs s =
      if laneRoutes < pairs.length ∨ badPairs pairs then (s, .refuse .malformed)
      else if cueActiveOn s.cues n then (s, .refuse .busy)
      else if ¬poolUsed s.routes + pairs.length ≤ routePool + s.routes[n].length then (s, .refuse .nospace)
      else (s.withRoutes n (plainEntries (sortedPairs pairs)), ⟨if overUnity pairs then .adjusted else .done, []⟩) := by
  simp only [takeRouteWrite, agrees, hn, ne_eq, not_true_eq_false, if_false, poolFits, Bool.not_eq_true',
    decide_eq_false_iff_not]

end

/-- Settles O34: R98's checks in order, then the list as it is written. -/
theorem routeWrite : Obligations.RouteWrite := by
  intro dest lane count pairs s h used
  have answers {t : State} {r : Reply} (ht : takeRouteWrite lane count pairs s = (t, r)) :
      exec (.routeWrite dest lane count pairs) s = .next (t.replying 0x40 r.status r.content) :=
    exec_answers (.routeWrite lane count pairs) h rfl (by simp) ht
  simp only [firstRefusal_cons, firstRefusal_nil, decide_eq_true_eq]
  by_cases agrees : count.toNat = pairs.length
  swap
  · rw [if_pos (by omega)]
    exact (answers (takeRouteWrite_of_disagreeing agrees) :)
  rw [if_neg (by omega)]
  by_cases range : 47 < lane.toNat
  · rw [if_pos range]
    exact (answers (takeRouteWrite_of_range agrees range) :)
  rw [if_neg range]
  obtain ⟨n, hn⟩ : ∃ n : Fin 48, n.val = lane.toNat := ⟨⟨lane.toNat, by omega⟩, rfl⟩
  have named (m : Fin 48) : m.val = lane.toNat ↔ m = n := by rw [← hn, Fin.ext_iff]
  have taken := takeRouteWrite_of_lane (s := s) agrees (index_of_eq hn)
  have bad_iff : ((16 < count.toNat ∨ ∃ p ∈ pairs, 63 < p.1.toNat) ∨ ¬(pairs.map (·.1)).Nodup) ↔
      laneRoutes < pairs.length ∨ badPairs pairs = true := by
    rw [or_assoc, badPairs_iff, agrees]
    rfl
  have busy_iff : (∃ (i : Fin 32) (m : Fin 48), m.val = lane.toNat ∧ s.cues[i].rampLane? = some m) ↔
      cueActiveOn s.cues n = true := by
    simp only [named, exists_eq_left, cueActiveOn_iff]
  have full_iff : (∃ m : Fin 48, m.val = lane.toNat ∧ 512 + s.routes[m].length < used + count.toNat) ↔
      ¬poolUsed s.routes + pairs.length ≤ routePool + s.routes[n].length := by
    simp only [named, exists_eq_left, agrees, not_le]
    rfl
  rw [← ite_or, ← ite_or]
  simp only [bad_iff, busy_iff, full_iff]
  by_cases bad : laneRoutes < pairs.length ∨ badPairs pairs = true
  · rw [if_pos bad] at taken ⊢
    exact (answers taken :)
  rw [if_neg bad] at taken ⊢
  by_cases busy : cueActiveOn s.cues n = true
  · rw [if_pos busy] at taken ⊢
    exact (answers taken :)
  rw [if_neg busy] at taken ⊢
  by_cases full : ¬poolUsed s.routes + pairs.length ≤ routePool + s.routes[n].length
  · rw [if_pos full] at taken ⊢
    exact (answers taken :)
  rw [if_neg full] at taken ⊢
  obtain ⟨-, good⟩ := not_or.mp bad
  obtain ⟨low, distinct⟩ := not_or.mp (badPairs_iff.not.mp good)
  rw [not_not] at distinct
  intro m hm
  obtain rfl := (named m).mp hm
  refine ⟨plainEntries (sortedPairs pairs), ?_, plainEntries_ascending (sortedPairs_ascending pairs), ?_, fun e => ?_⟩
  · simp only [overUnity_iff] at taken
    exact (answers taken :)
  · rw [length_plainEntries, length_sortedPairs distinct fun p hp => not_lt.mp fun above => low ⟨p, hp, above⟩]
  · simp only [mem_plainEntries, mem_sortedPairs distinct]
    constructor
    · rintro ⟨plain, p, mem, line, gain⟩
      exact ⟨p, mem, line, gain, plain⟩
    · rintro ⟨p, mem, line, gain, plain⟩
      exact ⟨plain, p, mem, line, gain⟩

/-! ## The records of the queries (R101, R125, R126, section 13.4) -/

/-- An entry has its ramp fields in the record exactly where it has them in the list (R101). -/
theorem entryBytes_eq {ramping : Bool} {e : RouteEntry} (h : e.ramp.isSome = ramping) : entryBytes ramping e =
    [BitVec.ofNat 8 e.line.val] ++ beBytes 2 e.gain ++
      (e.ramp.map fun r => beBytes 2 r.start ++ beBytes 2 r.target ++ [if r.leaving then 1 else 0]).getD [] := by
  subst h
  unfold entryBytes
  cases e.ramp <;> rfl

/-- A slot has in its record the fields of its state (R125). -/
theorem slotBytes_eq (slot : CueSlot) : slotBytes slot =
    match slot with
    | .free => [0]
    | .armed c => [1] ++ cueBytes c
    | .active c k h _ => [2] ++ cueBytes c ++ beBytes 2 k ++ beBytes 4 h.toNat
    | .spent c o late h => [3] ++ cueBytes c ++ [o.code] ++ beBytes 2 late ++
      (h.map fun h => beBytes 4 h.toNat).getD [] := by
  cases slot with
  | spent c o late h => cases h <;> simp [slotBytes]
  | _ => rfl

section
variable {i : Byte} {s : State}

theorem takeRouteQuery_of_index {n : Fin 48} (hn : n.val = i.toNat) (hs : RouteLaw s) :
    takeRouteQuery i s = (s, .done ([i] ++ beBytes 2 (poolUsed s.routes) ++
      [flagByte (cueActiveOn s.cues n), BitVec.ofNat 8 s.routes[n].length] ++ s.routes[n].flatMap fun e =>
        [BitVec.ofNat 8 e.line.val] ++ beBytes 2 e.gain ++
        (e.ramp.map fun r => beBytes 2 r.start ++ beBytes 2 r.target ++ [if r.leaving then 1 else 0]).getD [])) := by
  obtain ⟨lists, -⟩ := hs
  obtain ⟨-, -, entries⟩ := lists n
  have record : s.routes[n].flatMap (entryBytes (cueActiveOn s.cues n)) = s.routes[n].flatMap fun e =>
      [BitVec.ofNat 8 e.line.val] ++ beBytes 2 e.gain ++
      (e.ramp.map fun r => beBytes 2 r.start ++ beBytes 2 r.target ++ [if r.leaving then 1 else 0]).getD [] :=
    List.flatMap_congr fun e he => by
      obtain ⟨-, ramp, -⟩ := entries e he
      exact entryBytes_eq ramp
  simp only [takeRouteQuery, index_of_eq hn, hn, byte_toNat, record]
  rfl

theorem takeCueQuery_of_index {n : Fin 32} (hn : n.val = i.toNat) :
    takeCueQuery i s = (s, .done ([i] ++ slotBytes s.cues[n])) := by
  simp only [takeCueQuery, index_of_eq hn, hn, byte_toNat]
  rfl

end

/-- Settles O33: the codes, the indices out of range, and each record. -/
theorem routeAndCueQueries : Obligations.RouteAndCueQueries := by
  refine ⟨rfl, fun dest i s h => ?_⟩
  have routeQuery {t r} (ht : takeRouteQuery i s = (t, r)) :=
    exec_answers (c := .routeQuery dest i) (.routeQuery i) h rfl (by simp) ht
  have cueQuery {t r} (ht : takeCueQuery i s = (t, r)) :=
    exec_answers (c := .cueQuery dest i) (.cueQuery i) h rfl (by simp) ht
  have cueSurvey {t r} (ht : takeCueSurvey s = (t, r)) :=
    exec_answers (c := .cueSurvey dest) .cueSurvey h rfl (by simp) ht
  refine ⟨fun hi => ?_, fun hi => ?_, fun hs n hn => ?_, fun n hn => ?_, ?_⟩
  · exact (routeQuery (by simp only [takeRouteQuery, index_of_le hi] : _ = (s, .refuse .range)) :)
  · exact (cueQuery (by simp only [takeCueQuery, index_of_le hi] : _ = (s, .refuse .range)) :)
  · intro active
    have flag : active = cueActiveOn s.cues n := by
      rw [Bool.eq_iff_iff, cueActiveOn_iff, decide_eq_true_iff]
    rw [flag]
    exact (routeQuery (takeRouteQuery_of_index hn hs) :)
  · rw [cueQuery (takeCueQuery_of_index hn), slotBytes_eq]
    rfl
  · exact (cueSurvey rfl :)

end Sys2Proof.Machine
end

section
/-! SUPPORT. The generic checks of a request: the reading of a frame's payload field by field, the frame that the
receiver judges, and that a refused request changes nothing. -/

namespace Sys2Proof.Machine

/-! ## The bytes of fields and pairs (section 13.4) -/

theorem beBytes_word16 (hi lo : Byte) : beBytes 2 (hi ++ lo : Word16).toNat = [hi, lo] := by
  have value := toNat_append_byte hi lo
  simp only [beBytes, value, List.cons.injEq, and_true]
  constructor <;> (apply BitVec.eq_of_toNat_eq; simp only [BitVec.toNat_ofNat]; omega)

theorem beBytes_word32 (b3 b2 b1 b0 : Byte) :
    beBytes 4 (b3 ++ b2 ++ b1 ++ b0 : Word32).toNat = [b3, b2, b1, b0] := by
  have v0 := toNat_append_byte (b3 ++ b2 ++ b1) b0
  have v1 := toNat_append_byte (b3 ++ b2) b1
  have v2 := toNat_append_byte b3 b2
  simp only [beBytes, v0, v1, v2, List.cons.injEq, and_true]
  refine ⟨?_, ?_, ?_, ?_⟩ <;> (apply BitVec.eq_of_toNat_eq; simp only [BitVec.toNat_ofNat]; omega)

theorem length_pairBytes (pairs : List Pair) : (pairBytes pairs).length = 3 * pairs.length := by
  induction pairs with
  | nil => rfl
  | cons p pairs ih =>
    rw [pairBytes, List.flatMap_cons, ← pairBytes, List.length_append, ih, List.length_cons, List.length_cons,
      length_beBytes]
    omega

/-- The bytes that divide into pairs are the bytes of those pairs. -/
theorem pairBytes_of_pairsOf {bytes : List Byte} {pairs : List Pair} (h : pairsOf bytes = some pairs) :
    pairBytes pairs = bytes := by
  induction bytes using pairsOf.induct generalizing pairs with
  | case1 =>
    cases h
    rfl
  | case2 l hi lo rest ps hps ih =>
    simp only [pairsOf, hps, Option.some.injEq] at h
    rw [← h, pairBytes, List.flatMap_cons, ← pairBytes, ih hps, beBytes_word16]
    rfl
  | case3 l hi lo rest hps _ => simp [pairsOf, hps] at h
  | case4 bytes hnil hcons =>
    rw [pairsOf] at h
    · cases h
    · exact hnil
    · exact hcons

theorem pairsOf_isSome (m : Nat) : ∀ {bytes : List Byte}, bytes.length = 3 * m → (pairsOf bytes).isSome = true := by
  induction m with
  | zero =>
    intro bytes h
    rw [List.eq_nil_of_length_eq_zero h]
    rfl
  | succ m ih =>
    intro bytes h
    match bytes, h with
    | l :: hi :: lo :: rest, h =>
      have some_rest := ih (bytes := rest) (by simp only [List.length_cons] at h; omega)
      obtain ⟨ps, hps⟩ := Option.isSome_iff_exists.mp some_rest
      simp [pairsOf, hps]

/-! ## The reading of a payload (R170, section 13.4) -/

theorem mem_kindTable {kind : Byte} :
    kind ∈ kindTable ↔ kind ∈ fixedLengths.map Prod.fst ∨ kind = 0x40 ∨ kind = 0x50 := by
  have same : kindTable.Perm (fixedLengths.map Prod.fst ++ [0x40, 0x50]) := by decide
  rw [same.mem_iff, List.mem_append, List.mem_pair]

/-- The payload spells, under this kind, a request that is neither unknown nor malformed, with exactly these fields. -/
structure Spells (kind : Byte) (payload : List Byte) (q : Request) : Prop where
  spelled : spelled kind payload = some q
  kind_eq : kindOf q = kind
  payload_eq : payloadOf q = payload
  known : q ≠ .unknown kind
  formed : q ≠ .malformed kind

/-- A kind with a fixed payload spells a request where the payload has its length, and nothing else. -/
theorem spelled_isSome_of_fixed {kind : Byte} {n : Nat} (h : (kind, n) ∈ fixedLengths) (payload : List Byte) :
    (spelled kind payload).isSome = true ↔ payload.length = n := by
  have all : (fixedLengths.all fun p => (spelled p.1 payload).isSome == (payload.length == p.2)) = true := by
    match payload with
    | [] => rfl
    | [_] => rfl
    | [_, _] => rfl
    | [_, _, _] => rfl
    | [_, _, _, _] => rfl
    | [_, _, _, _, _] => rfl
    | _ :: _ :: _ :: _ :: _ :: _ :: _ => rfl
  rw [beq_iff_eq.mp (List.all_eq_true.mp all _ h), beq_iff_eq]

/-- The kinds with a fixed payload, by the payload's length. -/
theorem spells_of_fixed {kind : Byte} {payload : List Byte} (h : (kind, payload.length) ∈ fixedLengths) :
    ∃ q, Spells kind payload q := by
  match payload with
  | [] =>
    simp [fixedLengths] at h
    rcases h with rfl | rfl | rfl | rfl | rfl | rfl | rfl | rfl | rfl | rfl | rfl | rfl <;>
      exact ⟨_, rfl, rfl, rfl, nofun, nofun⟩
  | [_] =>
    simp [fixedLengths] at h
    rcases h with rfl | rfl | rfl | rfl | rfl | rfl | rfl | rfl | rfl <;> exact ⟨_, rfl, rfl, rfl, nofun, nofun⟩
  | [hi, lo] =>
    simp [fixedLengths] at h
    rcases h with rfl | rfl | rfl | rfl | rfl
    case inr.inr.inr.inl => exact ⟨.conditionMask (hi ++ lo), rfl, rfl, beBytes_word16 hi lo, nofun, nofun⟩
    case inr.inr.inr.inr => exact ⟨.conditionClear (hi ++ lo), rfl, rfl, beBytes_word16 hi lo, nofun, nofun⟩
    all_goals exact ⟨_, rfl, rfl, rfl, nofun, nofun⟩
  | [_, _, _] =>
    simp [fixedLengths] at h
    rcases h with rfl
    exact ⟨_, rfl, rfl, rfl, nofun, nofun⟩
  | [_, _, _, _] =>
    simp [fixedLengths] at h
    rcases h with rfl
    exact ⟨_, rfl, rfl, rfl, nofun, nofun⟩
  | [line, t1, t0, d1, d0] =>
    simp [fixedLengths] at h
    rcases h with rfl | rfl
    · exact ⟨_, rfl, rfl, rfl, nofun, nofun⟩
    · refine ⟨.lineSetup line (t1 ++ t0) (d1 ++ d0), rfl, rfl, ?_, nofun, nofun⟩
      rw [payloadOf, beBytes_word16, beBytes_word16]
      rfl
  | _ :: _ :: _ :: _ :: _ :: _ :: _ => simp [fixedLengths] at h

/-! ### Route Write and Cue Load (R98, R110) -/

section
variable {slot lane priority dueNow d3 d2 d1 d0 n1 n0 count : Byte} {rest : List Byte} {pairs : List Pair}

theorem spelled_routeWrite :
    spelled 0x40 (lane :: count :: rest) = (pairsOf rest).map fun ps => .routeWrite lane count ps := rfl

theorem spelled_cueLoad :
    spelled 0x50 (slot :: lane :: priority :: dueNow :: d3 :: d2 :: d1 :: d0 :: n1 :: n0 :: count :: rest) =
      (pairsOf rest).map fun ps => .cueLoad slot lane priority dueNow (d3 ++ d2 ++ d1 ++ d0) (n1 ++ n0) count ps := rfl

theorem spells_routeWrite (h : pairsOf rest = some pairs) :
    Spells 0x40 (lane :: count :: rest) (.routeWrite lane count pairs) :=
  ⟨by rw [spelled_routeWrite, h]; rfl, rfl, by rw [payloadOf, pairBytes_of_pairsOf h]; rfl, nofun, nofun⟩

theorem spells_cueLoad (h : pairsOf rest = some pairs) :
    Spells 0x50 (slot :: lane :: priority :: dueNow :: d3 :: d2 :: d1 :: d0 :: n1 :: n0 :: count :: rest)
      (.cueLoad slot lane priority dueNow (d3 ++ d2 ++ d1 ++ d0) (n1 ++ n0) count pairs) :=
  ⟨by rw [spelled_cueLoad, h]; rfl, rfl,
    by rw [payloadOf, beBytes_word32, beBytes_word16, pairBytes_of_pairsOf h]; rfl, nofun, nofun⟩

end

theorem length_of_pairsOf {rest : List Byte} {pairs : List Pair} (h : pairsOf rest = some pairs) :
    rest.length = 3 * pairs.length := by
  rw [← pairBytes_of_pairsOf h, length_pairBytes]

/-- A payload of an allowed length spells a request. -/
theorem spells_of_lengthAllowed {kind : Byte} {payload : List Byte} (h : lengthAllowed kind payload) :
    ∃ q, Spells kind payload q := by
  rcases h with fixed | ⟨rfl, length⟩ | ⟨rfl, length⟩
  · exact spells_of_fixed fixed
  · match payload, length with
    | _ :: count :: rest, length =>
      have length : rest.length + 1 + 1 = 2 + 3 * count.toNat := length
      obtain ⟨pairs, h⟩ := Option.isSome_iff_exists.mp (pairsOf_isSome count.toNat (bytes := rest) (by omega))
      exact ⟨_, spells_routeWrite h⟩
  · match payload, length with
    | _ :: _ :: _ :: _ :: _ :: _ :: _ :: _ :: _ :: _ :: count :: rest, length =>
      have length : rest.length + 11 = 11 + 3 * count.toNat := length
      obtain ⟨pairs, h⟩ := Option.isSome_iff_exists.mp (pairsOf_isSome count.toNat (bytes := rest) (by omega))
      exact ⟨_, spells_cueLoad h⟩

/-- The request is of this kind, and is refused MALFORMED. -/
structure Malformed (kind : Byte) (q : Request) : Prop where
  kind_eq : kindOf q = kind
  not_restart : q ≠ .restart
  refused : ∀ s, take q s = (s, .refuse .malformed)

theorem malformed_malformed (kind : Byte) : Malformed kind (.malformed kind) := ⟨rfl, nofun, fun _ => rfl⟩

/-- A payload of a length that its kind does not allow spells nothing, or a pair count that is not that of its pairs. -/
theorem malformed_of_not_lengthAllowed {kind : Byte} {payload : List Byte} (known : kind ∈ kindTable)
    (h : ¬lengthAllowed kind payload) : Malformed kind ((spelled kind payload).getD (.malformed kind)) := by
  have unspelled (none : spelled kind payload = none) :
      Malformed kind ((spelled kind payload).getD (.malformed kind)) := by
    rw [none]
    exact malformed_malformed kind
  obtain ⟨notFixed, notWrite, notLoad⟩ : (kind, payload.length) ∉ fixedLengths ∧ _ ∧ _ := by simpa only [not_or] using h
  rcases mem_kindTable.mp known with fixed | rfl | rfl
  · obtain ⟨⟨_, n⟩, mem, rfl⟩ := List.mem_map.mp fixed
    refine unspelled (Option.not_isSome_iff_eq_none.mp fun some => notFixed ?_)
    rwa [(spelled_isSome_of_fixed mem payload).mp some]
  · match payload with
    | [] => exact unspelled rfl
    | [_] => exact unspelled rfl
    | lane :: count :: rest =>
      cases hp : pairsOf rest with
      | none => exact unspelled (by rw [spelled_routeWrite, hp]; rfl)
      | some pairs =>
        rw [(spells_routeWrite hp).spelled]
        refine ⟨rfl, nofun, fun s => if_pos fun agrees => notWrite ⟨rfl, ?_⟩⟩
        have length := length_of_pairsOf hp
        change rest.length + 2 = 2 + 3 * count.toNat
        omega
  · match payload with
    | _ :: _ :: _ :: _ :: _ :: _ :: _ :: _ :: _ :: _ :: count :: rest =>
      cases hp : pairsOf rest with
      | none => exact unspelled (by rw [spelled_cueLoad, hp]; rfl)
      | some pairs =>
        rw [(spells_cueLoad hp).spelled]
        refine ⟨rfl, nofun, fun s => if_pos fun agrees => notLoad ⟨rfl, ?_⟩⟩
        have length := length_of_pairsOf hp
        change rest.length + 11 = 11 + 3 * count.toNat
        omega
    | [] | [_] | [_, _] | [_, _, _] | [_, _, _, _] | [_, _, _, _, _] | [_, _, _, _, _, _] | [_, _, _, _, _, _, _]
    | [_, _, _, _, _, _, _, _] | [_, _, _, _, _, _, _, _, _] | [_, _, _, _, _, _, _, _, _, _] => exact unspelled rfl

/-! ### The request of a frame -/

section
variable {kind length : Byte} {payload : List Byte}

theorem readRequest_of_unknown (h : kind ∉ kindTable) : readRequest kind length payload = .unknown kind := by
  simp [readRequest, h]

theorem readRequest_of_length (known : kind ∈ kindTable) (h : length.toNat ≠ payload.length) :
    readRequest kind length payload = .malformed kind := by
  simp [readRequest, known, h]

theorem readRequest_of_known (known : kind ∈ kindTable) (h : length.toNat = payload.length) :
    readRequest kind length payload = (spelled kind payload).getD (.malformed kind) := by
  simp [readRequest, known, h]

theorem mem_kindTable_of_lengthAllowed (h : lengthAllowed kind payload) : kind ∈ kindTable := by
  refine mem_kindTable.mpr ?_
  rcases h with fixed | ⟨write, -⟩ | ⟨load, -⟩
  · exact .inl (List.mem_map_of_mem (f := Prod.fst) fixed)
  · exact .inr (.inl write)
  · exact .inr (.inr load)

/-- A frame that fails a generic check is refused MALFORMED (R98, R110, R170). -/
theorem malformed_readRequest (known : kind ∈ kindTable)
    (h : length.toNat ≠ payload.length ∨ ¬lengthAllowed kind payload) :
    Malformed kind (readRequest kind length payload) := by
  by_cases agrees : length.toNat = payload.length
  · rw [readRequest_of_known known agrees]
    exact malformed_of_not_lengthAllowed known (h.resolve_left (not_not.mpr agrees))
  · rw [readRequest_of_length known agrees]
    exact malformed_malformed kind

/-- A frame that passes the generic checks is the request of its kind with the payload's fields. -/
theorem spells_readRequest (agrees : length.toNat = payload.length) (h : lengthAllowed kind payload) :
    Spells kind payload (readRequest kind length payload) := by
  obtain ⟨q, hq⟩ := spells_of_lengthAllowed h
  rwa [readRequest_of_known (mem_kindTable_of_lengthAllowed h) agrees, hq.spelled]

end

/-! ## A frame at the receiver (R164, R165) -/

/-- A request frame with its check is handed on, for the destination in its address byte. -/
theorem judge_checked {address kind length : Byte} {payload : List Byte} (isRequest : address.getLsbD 7 = false)
    (s : State) : judge (address :: kind :: length :: payload ++
      beBytes 2 (crc16 (address :: kind :: length :: payload)).toNat) s =
        request (address.setWidth 4) (readRequest kind length payload) s := by
  have msb : address.msb = false := (BitVec.msb_eq_getLsbD_last address).trans isRequest
  generalize hframe : address :: kind :: length :: payload = frame
  have long : 3 ≤ frame.length := by simp [← hframe]
  have total : (frame ++ beBytes 2 (crc16 frame).toNat).length - 2 = frame.length := by simp [length_beBytes]
  simp only [judge, total, List.take_left, List.drop_left, ne_eq, not_true_eq_false, if_false]
  rw [if_neg (by simp only [List.length_append, length_beBytes]; omega), ← hframe]
  simp only [msb, Bool.false_eq_true, if_false]

/-- The row CONTROL_FRAME_END at a receiver that collects a frame for this part: its request is taken and answered. -/
theorem exec_controlFrameEnd_answers {address kind length : Byte} {payload : List Byte} {s : State} {q : Request}
    {r : Reply} (collects : s.link.rx = .collecting) (ready : Ready (address.setWidth 4) s)
    (isRequest : address.getLsbD 7 = false) (hbuffer : s.link.buffer = address :: kind :: length :: payload ++
      beBytes 2 (crc16 (address :: kind :: length :: payload)).toNat)
    (hq : readRequest kind length payload = q) (other : q ≠ .restart) (refused : ∀ t, take q t = (t, r)) :
    exec .controlFrameEnd s =
      .next (State.replying (kindOf q) r.status r.content { s with link := { s.link with buffer := [] } }) := by
  have opened : openFrame s = { s with link := { s.link with buffer := [] } } := by
    simp only [openFrame, State.withLink, collects]
  have ended : exec .controlFrameEnd s = .next (if s.link.rx = .collecting then endFrame s else s) := rfl
  rw [ended, if_pos collects, endFrame, opened, hbuffer, judge_checked isRequest, hq,
    request_replying ?_ other, refused]
  exact ready

/-! ## What a refusal leaves (R169, R170) -/

/-- A request is done, or done with a correction, or refused with nothing changed and the status alone. -/
def DoneOrRefused (s : State) (r : State × Reply) : Prop :=
  r.2.status = .done ∨ r.2.status = .adjusted ∨ r = (s, .refuse r.2.status)

section
variable (s t : State)

theorem doneOrRefused_refuse (status : Status) : DoneOrRefused s (s, .refuse status) := .inr (.inr rfl)

theorem doneOrRefused_done (content : List Byte) : DoneOrRefused s (t, .done content) := .inl rfl

theorem doneOrRefused_corrected (content : List Byte) : DoneOrRefused s (t, ⟨.adjusted, content⟩) := .inr (.inl rfl)

theorem doneOrRefused_uncorrected (content : List Byte) : DoneOrRefused s (t, ⟨.done, content⟩) := .inl rfl

/-- A request that is always done, one that the generic checks refuse, and, of every other, each way it can end. -/
theorem take_doneOrRefused (q : Request) : DoneOrRefused s (take q s) := by
  cases q with
  | identify | status | restart | countersClear | clockQuery | cueAbortAll | cueSurvey | conditionSurvey =>
    exact doneOrRefused_done ..
  | unknown | malformed => exact doneOrRefused_refuse ..
  | _ =>
    simp only [take, takeGo, takeHalt, takeClockRate, takeClockSource, takePortSetup, takePortAccept, takePortQuery,
      takePortRevive, takeLaneBind, takeLaneSelect, takeLaneMute, takeLaneQuery, takeRouteWrite, takeRouteQuery,
      takeCueLoad, takeCueAbort, takeCueQuery, takeLineSetup, takeLineMute, takeLineQuery, takeConditionTake,
      takeConditionRelease, takeConditionMask, takeConditionClear]
    repeat' split
    all_goals simp only [doneOrRefused_refuse, doneOrRefused_done, doneOrRefused_corrected, doneOrRefused_uncorrected]

end

/-- Settles O46: the kinds, an unknown kind's row and frame, a malformed frame, the fields of one that passes, and what
a refusal leaves. -/
theorem genericChecks : Obligations.GenericChecks := by
  refine ⟨fun _ => mem_kindTable, fun dest kind s h unknown => ?_, fun address kind length payload s hrx h hbit => ?_,
    fun kind length payload => ⟨readRequest_of_unknown, readRequest_of_length, fun agrees allowed => ?_⟩,
    fun q s done adjusted => ?_⟩
  · have row : requested? (.unknownKind dest kind) = some (dest, .unknown kind) := by
      rw [requested?, readRequest_of_unknown unknown]
    exact (exec_answers _ h row nofun rfl :)
  · intro frame hbuffer opened
    refine ⟨fun unknown => ?_, fun known fails => ?_⟩
    · exact (exec_controlFrameEnd_answers hrx h hbit hbuffer (readRequest_of_unknown unknown) nofun fun _ => rfl :)
    · have refused := malformed_readRequest known fails
      have answered := exec_controlFrameEnd_answers hrx h hbit hbuffer rfl refused.not_restart refused.refused
      rwa [refused.kind_eq] at answered
  · have spells := spells_readRequest agrees allowed
    exact ⟨spells.kind_eq, spells.payload_eq, spells.known, spells.formed⟩
  · exact ((take_doneOrRefused s q).resolve_left done).resolve_left adjusted

end Sys2Proof.Machine
end

section
/-! SUPPORT. Cue Load, for a part that is ready to answer. -/

namespace Sys2Proof.Machine

/-! ## Cue Load (R110, R111) -/

section
variable {slot lane priority dueNow count : Byte} {due : Word32} {ramp : Word16} {pairs : List Pair} {s : State}

theorem takeCueLoad_of_disagreeing (h : count.toNat ≠ pairs.length) :
    takeCueLoad slot lane priority dueNow due ramp count pairs s = (s, .refuse .malformed) := if_pos h

/-- A slot, a lane or a flag out of range is refused (R110, R177). -/
theorem takeCueLoad_of_range (agrees : count.toNat = pairs.length)
    (h : 31 < slot.toNat ∨ 47 < lane.toNat ∨ 1 < dueNow.toNat) :
    takeCueLoad slot lane priority dueNow due ramp count pairs s = (s, .refuse .range) := by
  rw [takeCueLoad, if_neg (not_not.mpr agrees)]
  rcases h with h | h | h
  · rw [index_of_le h]
  · rw [index_of_le h]
    cases index 32 slot <;> rfl
  · rw [flagOf_eq, if_pos h]
    cases index 32 slot <;> cases index 48 lane <;> rfl

/-- A Cue Load whose count is that of its pairs, with its fields in range: the checks that are left, and the cue. -/
theorem takeCueLoad_of_fields {i : Fin 32} {n : Fin 48} {now : Bool} (agrees : count.toNat = pairs.length)
    (hi : index 32 slot = some i) (hn : index 48 lane = some n) (hnow : flagOf dueNow = some now) :
    takeCueLoad slot lane priority dueNow due ramp count pairs s =
      if laneRoutes < pairs.length ∨ badPairs pairs then (s, .refuse .malformed)
      else if s.cues[i].busy then (s, .refuse .busy)
      else (s.withCue i (.armed {
          lane := n, priority := priority.toNat, due := if now then s.hcu.count else due, ramp := ramp.toNat,
          targets := sortedPairs pairs }), ⟨if overUnity pairs then .adjusted else .done, []⟩) := by
  simp only [takeCueLoad, agrees, hi, hn, hnow, ne_eq, not_true_eq_false, if_false]

end

theorem CueSlot.busy_iff {slot : CueSlot} : slot.busy = true ↔ slot.isArmed = true ∨ slot.rampLane? ≠ none := by
  cases slot <;> simp [CueSlot.busy, CueSlot.isArmed, CueSlot.rampLane?, CueSlot.ramping?]

/-- Settles O35: R110's checks in order, then the cue as it is loaded. -/
theorem cueLoad : Obligations.CueLoad := by
  intro dest slot lane priority dueNow due ramp count pairs s h command
  have answers {t : State} {r : Reply} (ht : takeCueLoad slot lane priority dueNow due ramp count pairs s = (t, r)) :
      exec command s = .next (t.replying 0x50 r.status r.content) :=
    exec_answers (.cueLoad slot lane priority dueNow due ramp count pairs) h rfl (by simp) ht
  simp only [firstRefusal_cons, firstRefusal_nil, decide_eq_true_eq]
  by_cases agrees : count.toNat = pairs.length
  swap
  · rw [if_pos (by omega)]
    exact (answers (takeCueLoad_of_disagreeing agrees) :)
  rw [if_neg (by omega)]
  by_cases range : 31 < slot.toNat ∨ 47 < lane.toNat ∨ 1 < dueNow.toNat
  · rw [if_pos range]
    exact (answers (takeCueLoad_of_range agrees range) :)
  rw [if_neg range]
  simp only [not_or, not_lt] at range
  obtain ⟨slotLow, laneLow, flagLow⟩ := range
  obtain ⟨i, hi⟩ : ∃ i : Fin 32, i.val = slot.toNat := ⟨⟨slot.toNat, by omega⟩, rfl⟩
  obtain ⟨n, hn⟩ : ∃ n : Fin 48, n.val = lane.toNat := ⟨⟨lane.toNat, by omega⟩, rfl⟩
  have named (j : Fin 32) : j.val = slot.toNat ↔ j = i := by rw [← hi, Fin.ext_iff]
  have hnow : flagOf dueNow = some (dueNow == 1) := by rw [flagOf_eq, if_neg (by omega)]
  have taken := takeCueLoad_of_fields (priority := priority) (due := due) (ramp := ramp) (s := s) agrees
    (index_of_eq hi) (index_of_eq hn) hnow
  have bad_iff : ((16 < count.toNat ∨ ∃ p ∈ pairs, 63 < p.1.toNat) ∨ ¬(pairs.map (·.1)).Nodup) ↔
      laneRoutes < pairs.length ∨ badPairs pairs = true := by
    rw [or_assoc, badPairs_iff, agrees]
    rfl
  have busy_iff : (∃ j : Fin 32, j.val = slot.toNat ∧ (s.cues[j].isArmed = true ∨ s.cues[j].rampLane? ≠ none)) ↔
      s.cues[i].busy = true := by
    simp only [named, exists_eq_left, CueSlot.busy_iff]
  rw [← ite_or, ← ite_or]
  simp only [bad_iff, busy_iff]
  by_cases bad : laneRoutes < pairs.length ∨ badPairs pairs = true
  · rw [if_pos bad] at taken ⊢
    exact (answers taken :)
  rw [if_neg bad] at taken ⊢
  by_cases busy : s.cues[i].busy = true
  · rw [if_pos busy] at taken ⊢
    exact (answers taken :)
  rw [if_neg busy] at taken ⊢
  obtain ⟨-, good⟩ := not_or.mp bad
  obtain ⟨low, distinct⟩ := not_or.mp (badPairs_iff.not.mp good)
  rw [not_not] at distinct
  intro j m hj hm
  obtain rfl := (named j).mp hj
  obtain rfl : m = n := Fin.ext (hm.trans hn.symm)
  refine ⟨sortedPairs pairs, ?_, sortedPairs_ascending pairs, ?_, fun t => mem_sortedPairs distinct⟩
  · simp only [overUnity_iff, beq_iff_eq] at taken
    exact (answers taken :)
  · exact length_sortedPairs distinct fun p hp => not_lt.mp fun above => low ⟨p, hp, above⟩

end Sys2Proof.Machine
end

section
/-! SUPPORT. How a cue ends: the list that a completed ramp leaves, and Cue Abort and Cue Abort All for a part that is
ready to answer. -/

namespace Sys2Proof.Machine

/-! ## Completion (R119, R120) -/

/-- A list whose staying entries stand at their targets ends its ramp as their targets. -/
theorem endRamp_of_at_target {list : List RouteEntry}
    (h : ∀ e ∈ list, e.gain = (e.ramp.map Ramp.target).getD 0) : endRamp list = plainEntries (stayingTargets list) := by
  rw [endRamp, plainEntries, stayingTargets, List.map_map]
  refine List.map_congr_left fun e he => ?_
  simp only [Function.comp_apply, ← h e (List.mem_of_mem_filter he)]

/-- At step N the end of the ramp leaves the cue's target set (R119, R120). -/
theorem RampLaw.endRamp {list : List RouteEntry} {c : Cue} (h : RampLaw list c c.ramp) (lawful : ListLaw true list) :
    Machine.endRamp list = plainEntries c.targets := by
  obtain ⟨-, gains, targets⟩ := rampLaw_iff.mp h
  obtain ⟨-, -, entries⟩ := listLaw_ramping_iff.mp lawful
  rw [endRamp_of_at_target, targets]
  intro e he
  obtain ⟨-, r, ramp, -⟩ := entries e he
  rw [gains e he r ramp, stepGain_end, ramp]
  rfl

section
variable {i : Fin 32} {s : State} {c : Cue} {k : Nat} {h : Word32} {late : Nat}

/-- A cue at step N completes (R120). -/
theorem completeCue_of_ended (active : s.cues[i] = .active c c.ramp h late) :
    completeCue i s = ((s.withRoutes c.lane (endRamp s.routes[c.lane])).withCue i
      (.spent c .completed late (some h))).raise .cueDone (slotBit i) := by
  simp only [completeCue, active, if_true]

/-- A slot that is not ACTIVE at step N does not complete. -/
theorem completeCue_of_not_ended (underway : ∀ c h late, s.cues[i] ≠ .active c c.ramp h late) :
    completeCue i s = s := by
  rcases completeCue_cases i s with same | ⟨c, h, late, active, -⟩
  · exact same
  · exact absurd active (underway c h late)

end

/-! ## Aborts (R122, R124) -/

theorem CueSlot.isArmed_iff {slot : CueSlot} : slot.isArmed = true ↔ ∃ c, slot = .armed c := by
  cases slot <;> simp [CueSlot.isArmed]

/-- The outcome record of an aborted cue: its lateness is counted if it was due (R122). -/
theorem abortedSlot_eq (count : Word32) (c : Cue) : abortedSlot count c =
    .spent c .aborted (if (count - c.due).toNat < 2 ^ 31 then min (count - c.due).toNat 65535 else 0) none := by
  simp only [abortedSlot, isDue, decide_eq_true_eq, lateness, Nat.reducePow]

section
variable {slot : Byte} {s : State}

theorem takeCueAbort_of_range (h : 31 < slot.toNat) : takeCueAbort slot s = (s, .refuse .range) := by
  rw [takeCueAbort, index_of_le h]

/-- A Cue Abort, by the state of its slot (R122). -/
theorem takeCueAbort_of_index {i : Fin 32} (hi : i.val = slot.toNat) : takeCueAbort slot s =
    match s.cues[i] with
    | .armed c => ((s.withCue i (abortedSlot s.hcu.count c)).raise .cueDone (slotBit i), .done [0])
    | .active _ _ _ _ => (s, .done [1])
    | .free => (s, .refuse .wrongstate)
    | .spent _ _ _ _ => (s, .refuse .wrongstate) := by
  simp only [takeCueAbort, index_of_eq hi]
  cases s.cues[i] <;> rfl

/-- What a Cue Abort All touches. -/
theorem takeCueAbortAll_rest (s : State) : (takeCueAbortAll s).1 =
    { s with cues := (takeCueAbortAll s).1.cues, conditions := (takeCueAbortAll s).1.conditions } := by
  simp only [takeCueAbortAll, State.raiseSet, State.raiseIf]
  split <;> rfl

theorem takeCueAbortAll_cue (s : State) (i : Fin 32) :
    (takeCueAbortAll s).1.cues[i] = s.cues[i].abort s.hcu.count := by
  simp [takeCueAbortAll]

/-- The conditions are those of one raise of Cue Done, for the ARMED slots (R124, R128). -/
theorem takeCueAbortAll_conditions (s : State) : (takeCueAbortAll s).1.conditions =
    (s.raiseSet .cueDone (setBits fun i : Fin 32 => s.cues[i].isArmed)).conditions := by
  simp only [takeCueAbortAll, State.raiseSet_conditions]

theorem takeCueAbortAll_keepsCondition {i : Fin 12} (hi : i ≠ Cond.cueDone.index) (s : State) :
    (takeCueAbortAll s).1.conditions[i] = s.conditions[i] := by
  have kept := KeepsCondition.refl i s
  rw [takeCueAbortAll_conditions, State.raiseSet, State.raiseIf]
  split
  · exact kept.raise hi _
  · exact kept

theorem takeCueAbortAll_conditions_of_none (none : ∀ i : Fin 32, s.cues[i].isArmed = false) :
    (takeCueAbortAll s).1.conditions = s.conditions := by
  rw [takeCueAbortAll_conditions, setBits_of_none none]
  rfl

end

/-- Settles O37: the completion through `RampLaw.endRamp`, then the aborts by the slots' states. -/
theorem cueEnds : Obligations.CueEnds := by
  refine ⟨fun slot => CueSlot.isArmed_iff, fun i s law => ⟨fun c h late active => ?_, fun c k h late active going => ?_,
    fun idle => ?_⟩, ?_⟩
  · obtain ⟨table, -⟩ := routeLaw_iff.mp law
    have ended := completeCue_of_ended active
    rw [(table.ramp_of_active active).endRamp (table.list_of_active active)] at ended
    exact congrArg Host.Outcome.next ended
  · refine congrArg Host.Outcome.next (completeCue_of_not_ended fun c' h' late' ended => going ?_)
    cases active.symm.trans ended
    rfl
  · refine congrArg Host.Outcome.next (completeCue_of_not_ended fun c h late ended => ?_)
    rw [ended, CueSlot.rampLane?_active] at idle
    cases idle
  intro dest slot s h now aborted
  have record (c : Cue) : abortedSlot s.hcu.count c = aborted c := abortedSlot_eq _ c
  have abort {t : State} {r : Reply} (ht : takeCueAbort slot s = (t, r)) :
      exec (.cueAbort dest slot) s = .next (t.replying 0x51 r.status r.content) :=
    exec_answers (.cueAbort slot) h rfl (by simp) ht
  refine ⟨fun range => (abort (takeCueAbort_of_range range) :), fun i hi => ?_, (takeCueAbortAll s).1,
    (indices 32).countP fun i => s.cues[i].isArmed, ?_, List.countP_eq_length_filter, takeCueAbortAll_rest s,
    fun i => ?_, fun i hi => takeCueAbortAll_keepsCondition hi s, fun none => ?_, fun some => ?_⟩
  · have taken := takeCueAbort_of_index (s := s) hi
    cases hs : s.cues[i] <;> simp only [hs, record] at taken
    all_goals exact (abort taken :)
  · exact (exec_answers (c := .cueAbortAll dest) .cueAbortAll h rfl (by simp) rfl :)
  · rw [takeCueAbortAll_cue]
    cases s.cues[i] with
    | armed c => exact record c
    | _ => rfl
  · refine takeCueAbortAll_conditions_of_none fun i => ?_
    simpa using List.countP_eq_zero.mp none i (mem_indices i)
  · obtain ⟨-, -, latched, detail⟩ := State.raiseSet_raisedBy s (by decide) .cueDone fun i : Fin 32 => s.cues[i].isArmed
    rw [takeCueAbortAll_conditions]
    obtain ⟨i, -, armed⟩ := List.countP_pos_iff.mp some
    exact ⟨latched.mpr (.inr ⟨i.val, by omega, i, rfl, armed⟩), fun b => detail b.val b.isLt⟩

end Sys2Proof.Machine
end

section
/-! SUPPORT. The activation of a lane: which slot wins it, what the installed union holds for each line, and the three
things that can become of a winner. -/

namespace Sys2Proof.Machine

/-! ## The winner (R114) -/

/-- Slot `i` comes before slot `j`, or is it: the lower priority value, then the lower index (R114). -/
def Precedes (cues : Vector CueSlot 32) (i j : Fin 32) : Prop :=
  cues[i].priority < cues[j].priority ∨ cues[i].priority = cues[j].priority ∧ i ≤ j

section
variable {cues : Vector CueSlot 32} {i j k : Fin 32} {n : Fin 48} {h : Word32}

theorem Precedes.refl (cues : Vector CueSlot 32) (i : Fin 32) : Precedes cues i i := .inr ⟨rfl, le_rfl⟩

theorem Precedes.trans (hij : Precedes cues i j) (hjk : Precedes cues j k) : Precedes cues i k := by
  unfold Precedes at *
  omega

theorem Precedes.antisymm (hij : Precedes cues i j) (hji : Precedes cues j i) : i = j := by
  unfold Precedes at *
  omega

/-- Of the best slot so far and a later one that waits, the better. -/
def better (cues : Vector CueSlot 32) (n : Fin 48) (h : Word32) (best : Option (Fin 32)) (i : Fin 32) :
    Option (Fin 32) :=
  if cues[i].waits n h then
    match best with
    | none => some i
    | some b => if cues[i].priority < cues[b].priority then some i else some b
  else best

theorem winner_eq (cues : Vector CueSlot 32) (n : Fin 48) (h : Word32) :
    winner cues n h = (indices 32).foldl (better cues n h) none := rfl

/-- A slot that waits is preceded by the better of it and an earlier one, and so is the earlier one. -/
theorem better_precedes {best : Option (Fin 32)} (earlier : ∀ b ∈ best, b < i) :
    (∀ b ∈ best, ∃ w ∈ better cues n h best i, Precedes cues w b) ∧
    (cues[i].waits n h = true → ∃ w ∈ better cues n h best i, Precedes cues w i) ∧
    ∀ w ∈ better cues n h best i, w ≤ i := by
  unfold better
  cases best with
  | none =>
    split
    · exact ⟨nofun, fun _ => ⟨i, rfl, .refl cues i⟩, by simp⟩
    next idle => exact ⟨nofun, fun waits => absurd waits idle, nofun⟩
  | some b =>
    have before : b < i := earlier b rfl
    split
    · dsimp only
      split
      next lower => exact ⟨by simpa using .inl lower, fun _ => ⟨i, rfl, .refl cues i⟩, by simp⟩
      next higher =>
        have precedes : Precedes cues b i := by unfold Precedes; omega
        exact ⟨by simpa using .refl cues b, fun _ => ⟨b, rfl, precedes⟩, by simpa using before.le⟩
    next idle => exact ⟨by simpa using .refl cues b, fun waits => absurd waits idle, by simpa using before.le⟩

theorem foldl_better_precedes {l : List (Fin 32)} (ascending : l.Pairwise (· < ·)) {best : Option (Fin 32)}
    (earlier : ∀ b ∈ best, ∀ i ∈ l, b < i) :
    (∀ b ∈ best, ∃ w ∈ l.foldl (better cues n h) best, Precedes cues w b) ∧
    ∀ i ∈ l, cues[i].waits n h = true → ∃ w ∈ l.foldl (better cues n h) best, Precedes cues w i := by
  induction l generalizing best with
  | nil => exact ⟨fun b hb => ⟨b, hb, .refl cues b⟩, nofun⟩
  | cons a l ih =>
    obtain ⟨first, ascending⟩ := List.pairwise_cons.mp ascending
    obtain ⟨old, new, upTo⟩ := better_precedes (cues := cues) (n := n) (h := h)
      fun b hb => earlier b hb a List.mem_cons_self
    obtain ⟨kept, rest⟩ := ih ascending fun w hw i hi => (upTo w hw).trans_lt (first i hi)
    have through {j : Fin 32} (hj : ∃ w ∈ better cues n h best a, Precedes cues w j) :
        ∃ w ∈ (a :: l).foldl (better cues n h) best, Precedes cues w j := by
      obtain ⟨w, hw, precedes⟩ := hj
      obtain ⟨v, hv, precedes'⟩ := kept w hw
      exact ⟨v, hv, precedes'.trans precedes⟩
    refine ⟨fun b hb => through (old b hb), fun i hi waits => ?_⟩
    rcases List.mem_cons.mp hi with rfl | hi
    · exact through (new waits)
    · exact rest i hi waits

/-- The slot that waits for a lane and precedes all that do wins it (R114). -/
theorem winner_eq_some (waits : cues[i].waits n h = true)
    (first : ∀ j : Fin 32, cues[j].waits n h = true → Precedes cues i j) : winner cues n h = some i := by
  obtain ⟨-, all⟩ := foldl_better_precedes (cues := cues) (n := n) (h := h) (best := none) (l := indices 32)
    (List.sortedLT_finRange 32).pairwise nofun
  rw [← winner_eq] at all
  obtain ⟨w, won, precedes⟩ := all i (mem_indices i) waits
  rw [← (first w (winner_waits won)).antisymm precedes] at won
  exact won

/-- A lane for which no slot waits has no winner. -/
theorem winner_eq_none (none : ∀ j : Fin 32, cues[j].waits n h = false) : winner cues n h = .none := by
  cases hw : winner cues n h with
  | none => rfl
  | some i => exact absurd ((none i).symm.trans (winner_waits hw)) Bool.false_ne_true

end

/-- A slot waits for a lane where it is ARMED, names the lane and is due (R112, R114). -/
theorem CueSlot.waits_iff {slot : CueSlot} {n : Fin 48} {h : Word32} :
    slot.waits n h = true ↔ ∃ c, slot = .armed c ∧ c.lane = n ∧ (h - c.due).toNat < 2 ^ 31 := by
  cases slot <;> simp [CueSlot.waits, isDue]

/-! ## The union, line by line (R116, R117) -/

section
variable {list : List RouteEntry} {targets : List (Fin 64 × Nat)}

/-- The entry of the union for a line, by the gain that the list has for it and the one that the target set has. -/
theorem unionEntry_eq (list : List RouteEntry) (targets : List (Fin 64 × Nat)) (n : Fin 64) :
    unionEntry list targets n =
      let old := (list.find? fun e => e.line = n).map (·.gain)
      let new := (targets.find? fun p => p.1 = n).map (·.2)
      if old = none ∧ new = none then none
      else some {
        line := n, gain := old.getD 0,
        ramp := some { start := old.getD 0, target := new.getD 0, leaving := new.isNone } } := by
  unfold unionEntry
  cases list.find? fun e => e.line = n <;> cases targets.find? fun p => p.1 = n <;> rfl

theorem cueUnion_find? (list : List RouteEntry) (targets : List (Fin 64 × Nat)) (n : Fin 64) :
    (cueUnion list targets).find? (fun e => e.line = n) = unionEntry list targets n := by
  refine Option.ext fun e => ?_
  rw [find?_key (ascending_nodup_keys (cueUnion_ascending list targets)), cueUnion, List.mem_filterMap]
  constructor
  · rintro ⟨⟨m, -, found⟩, rfl⟩
    rwa [unionEntry_line found]
  · exact fun found => ⟨⟨n, mem_indices n, found⟩, unionEntry_line found⟩

/-- The union as it is installed, line by line: with a ramp length of 0 every gain is its target at once (R117). -/
theorem installed_find? (ramp : Nat) (list : List RouteEntry) (targets : List (Fin 64 × Nat)) (n : Fin 64) :
    (installed ramp (cueUnion list targets)).find? (fun e => e.line = n) =
      let old := (list.find? fun e => e.line = n).map (·.gain)
      let new := (targets.find? fun p => p.1 = n).map (·.2)
      if old = none ∧ new = none then none
      else some {
        line := n, gain := if ramp = 0 then new.getD 0 else old.getD 0,
        ramp := some { start := old.getD 0, target := new.getD 0, leaving := new.isNone } } := by
  have line (e : RouteEntry) : (if ramp = 0 then e.toTarget else e).line = e.line := by
    split
    · exact e.toTarget_line
    · rfl
  simp only [installed_eq, List.find?_map, Function.comp_def, line, cueUnion_find?, unionEntry_eq]
  by_cases unnamed : (list.find? fun e => e.line = n).map (·.gain) = none ∧
      (targets.find? fun p => p.1 = n).map (·.2) = none
  · rw [if_pos unnamed, if_pos unnamed]
    rfl
  · rw [if_neg unnamed, if_neg unnamed]
    split <;> rfl

end

/-! ## The activation of a lane (R114 to R118) -/

section
variable {l : Fin 48} {s : State}

theorem activateLane_of_closed (h : (∃ i : Fin 32, s.cues[i].rampLane? = some l) ∨ s.cueTaken[l] = true) :
    activateLane l s = s := by
  rw [activateLane, if_pos]
  rwa [Bool.or_eq_true, cueActiveOn_iff]

theorem activateLane_of_none (none : ∀ i : Fin 32, s.cues[i].waits l s.hcu.count = false) : activateLane l s = s := by
  rw [activateLane, winner_eq_none none, ite_self]

/-- The winner of a lane on which no cue is ACTIVE is run, and the lane has made its activation (R113, R114). -/
theorem activateLane_of_winner {i : Fin 32} {c : Cue} (idle : ∀ i : Fin 32, s.cues[i].rampLane? ≠ some l)
    (free : s.cueTaken[l] = false) (won : winner s.cues l s.hcu.count = some i) (armed : s.cues[i] = .armed c) :
    activateLane l s = runWinner i c s.hcu.count { s with cueTaken := s.cueTaken.set l true } := by
  simp only [activateLane, cueActiveOn_eq_false.mpr idle, free, won, armed, Bool.or_self, Bool.false_eq_true, if_false]

end

section
variable {i : Fin 32} {c : Cue} {h : Word32} {s : State}

/-- The winner's union is installed (R117). -/
theorem runWinner_of_union (fits : unionFits (poolUsed s.routes) s.routes[c.lane] c.targets = true) :
    runWinner i c h s = (s.withRoutes c.lane (installed c.ramp (cueUnion s.routes[c.lane] c.targets))).withCue i
      (.active c 0 h (lateness h c.due)) :=
  if_pos fits

/-- The winner is cut to its target set (R118). -/
theorem runWinner_of_cut (large : ¬unionFits (poolUsed s.routes) s.routes[c.lane] c.targets = true)
    (fits : poolFits (poolUsed s.routes) s.routes[c.lane].length c.targets.length = true) :
    runWinner i c h s = ((s.withRoutes c.lane (plainEntries c.targets)).withCue i
      (.spent c .cut (lateness h c.due) (some h))).raise .cueDone (slotBit i) :=
  (if_neg large).trans (if_pos fits)

/-- The winner ends with NOROOM (R118). -/
theorem runWinner_of_noroom (large : ¬unionFits (poolUsed s.routes) s.routes[c.lane] c.targets = true)
    (full : ¬poolFits (poolUsed s.routes) s.routes[c.lane].length c.targets.length = true) :
    runWinner i c h s =
      (s.withCue i (.spent c .noroom (lateness h c.due) (some h))).raise .cueDone (slotBit i) :=
  (if_neg large).trans (if_neg full)

end

/-- The union fits where the entries added to the list leave it at most 16, and the pool has room (R116). -/
theorem unionFits_iff_added {used : Nat} {list : List RouteEntry} {targets : List (Fin 64 × Nat)}
    (ascending : list.Pairwise fun a b => a.line < b.line) (targetsAscend : targets.Pairwise fun a b => a.1 < b.1) :
    unionFits used list targets = true ↔
      list.length + unionAdds list targets ≤ 16 ∧ used + unionAdds list targets ≤ 512 := by
  rw [unionFits_iff, length_cueUnion ascending targetsAscend]
  rfl

/-- Settles O36: the lanes that do not activate, then the winner by the room for its union and its target set. -/
theorem cueActivates : Obligations.CueActivates := by
  intro l s ascending h due waits used list
  have waits_iff {i : Fin 32} : s.cues[i].waits l h = true ↔ ∃ c, waits i c := CueSlot.waits_iff
  refine ⟨fun closed => congrArg Host.Outcome.next (activateLane_of_closed closed),
    fun none => congrArg Host.Outcome.next (activateLane_of_none fun i => ?_), fun i c idle free wins first => ?_⟩
  · refine Bool.eq_false_iff.mpr fun waiting => ?_
    obtain ⟨c, waiting⟩ := waits_iff.mp waiting
    exact none i c waiting
  intro late taken added ended
  obtain ⟨armed, rfl, isDue⟩ := wins
  have won : winner s.cues c.lane h = some i := by
    refine winner_eq_some (waits_iff.mpr ⟨c, armed, rfl, isDue⟩) fun j waiting => ?_
    obtain ⟨d, waiting⟩ := waits_iff.mp waiting
    have before := first j d waiting
    obtain ⟨armed', -⟩ := waiting
    rwa [Precedes, armed, armed']
  have ran : exec (.cueActivation c.lane) s = .next (runWinner i c h taken) :=
    congrArg Host.Outcome.next (activateLane_of_winner idle free won armed)
  obtain ⟨lists, cues⟩ := ascending
  have targetsAscend := cues i c (by rw [armed]; exact List.mem_singleton_self c)
  have adds : unionAdds list c.targets = added := List.countP_eq_length_filter
  have fits_iff := unionFits_iff_added (used := used) (lists c.lane) targetsAscend
  rw [adds] at fits_iff
  rw [ran]
  split
  next fits =>
    obtain ⟨installedAscends, -⟩ := ramping_installed c list c.targets
    exact ⟨installed c.ramp (cueUnion list c.targets),
      congrArg Host.Outcome.next (runWinner_of_union (s := taken) (fits_iff.mpr fits)), installedAscends,
      by rw [length_installed, length_cueUnion (lists c.lane) targetsAscend, adds],
      fun n => installed_find? c.ramp list c.targets n⟩
  next large =>
    have large := fits_iff.not.mpr large
    split
    next fits => exact congrArg Host.Outcome.next (runWinner_of_cut (s := taken) large (poolFits_iff.mpr fits))
    next full => exact congrArg Host.Outcome.next (runWinner_of_noroom (s := taken) large (poolFits_iff.not.mpr full))

end Sys2Proof.Machine
end

section
/-! SUPPORT. The cue table through a house sample: what each ramp step, activation and completion moves, and what that
makes of a slot, of its lane's list, and of the lanes and slots that it does not concern. -/

namespace Sys2Proof.Machine

/-! ## What one operation of the cue table moves -/

/-- From `s` to `t` slot `i`, which holds cue `c`, changes its record, and no list but that of the cue's lane does. -/
structure MovesCue (i : Fin 32) (c : Cue) (s t : State) : Prop where
  holds : s.cues[i].cue? = some c
  gets : t.cues[i].cue? = some c
  started : t.cues[i].isArmed = false
  slots : ∀ j, j ≠ i → t.cues[j] = s.cues[j]
  routes : ∀ l, l ≠ c.lane → t.routes[l] = s.routes[l]

theorem CueSlot.rampLane?_of_cue {slot : CueSlot} {c : Cue} {l : Fin 48} (cue : slot.cue? = some c) (hl : c.lane ≠ l) :
    slot.rampLane? ≠ some l := by
  cases slot <;> simp_all [CueSlot.cue?, CueSlot.rampLane?, CueSlot.ramping?]

theorem CueSlot.waits_eq_false_of_started {slot : CueSlot} (started : slot.isArmed = false) (l : Fin 48) (h : Word32) :
    slot.waits l h = false := by
  cases slot with
  | armed c => cases started
  | _ => rfl

section
variable {i : Fin 32} {c : Cue} {s t : State}

/-- One slot's record and the list of its cue's lane are replaced. -/
theorem MovesCue.of_set {slot : CueSlot} (holds : s.cues[i].cue? = some c) (cues : t.cues = s.cues.set i slot)
    (gets : slot.cue? = some c) (started : slot.isArmed = false)
    (routes : ∀ l, l ≠ c.lane → t.routes[l] = s.routes[l]) : MovesCue i c s t where
  holds := holds
  gets := by rwa [cues, getElem_set_self]
  started := by rwa [cues, getElem_set_self]
  slots j hj := by rw [cues, getElem_set_of_ne _ hj]
  routes := routes

/-- The slots that are not ACTIVE on a lane are not after a move of another lane's cue. -/
theorem MovesCue.idle {j : Fin 32} {l : Fin 48} (moved : MovesCue i c s t) (hl : c.lane ≠ l)
    (idle : s.cues[j].rampLane? ≠ some l) : t.cues[j].rampLane? ≠ some l := by
  by_cases hj : j = i
  · rw [hj]
    exact CueSlot.rampLane?_of_cue moved.gets hl
  · rwa [moved.slots j hj]

end

/-- What a slot's ramp step moves: nothing, or the ACTIVE cue of that slot. -/
theorem rampStep_moves (i : Fin 32) (s : State) : rampStep i s = s ∨
    ∃ c k h late, s.cues[i] = .active c k h late ∧ s.cueTaken[c.lane] = false ∧ MovesCue i c s (rampStep i s) := by
  rcases rampStep_cases i s with same | ⟨c, k, h, late, active, free, stepped⟩
  · exact .inl same
  · refine .inr ⟨c, k, h, late, active, free, ?_⟩
    rw [stepped]
    exact .of_set (by rw [active]; rfl) rfl rfl rfl fun l hl => getElem_set_of_ne _ hl _

/-- A winner becomes ACTIVE or SPENT, and only its lane's list changes (R117, R118). -/
theorem runWinner_moves {i : Fin 32} {c : Cue} {s : State} (holds : s.cues[i].cue? = some c) (h : Word32)
    (taken : Vector Bool 48) : MovesCue i c s (runWinner i c h { s with cueTaken := taken }) := by
  by_cases fits : unionFits (poolUsed s.routes) s.routes[c.lane] c.targets = true
  · rw [runWinner_of_union (by exact fits)]
    exact .of_set holds rfl rfl rfl fun l hl => getElem_set_of_ne _ hl _
  by_cases cut : poolFits (poolUsed s.routes) s.routes[c.lane].length c.targets.length = true
  · rw [runWinner_of_cut (by exact fits) (by exact cut)]
    exact .of_set holds rfl rfl rfl fun l hl => getElem_set_of_ne _ hl _
  · rw [runWinner_of_noroom (by exact fits) (by exact cut)]
    exact .of_set holds rfl rfl rfl fun _ _ => rfl

/-- What a lane's activation moves: nothing, or a cue ARMED for the lane. -/
theorem activateLane_moves (n : Fin 48) (s : State) : activateLane n s = s ∨
    ∃ i c, s.cues[i] = .armed c ∧ c.lane = n ∧ (∀ j : Fin 32, s.cues[j].rampLane? ≠ some n) ∧
      MovesCue i c s (activateLane n s) := by
  rcases activateLane_cases n s with same | ⟨i, c, armed, lane, idle, ran⟩
  · exact .inl same
  · refine .inr ⟨i, c, armed, lane, idle, ?_⟩
    have holds : s.cues[i].cue? = some c := by rw [armed]; rfl
    rw [ran]
    exact runWinner_moves holds _ _

/-- What a completion moves: nothing, or the cue of its slot, ACTIVE at step N. -/
theorem completeCue_moves (i : Fin 32) (s : State) : completeCue i s = s ∨
    ∃ c h late, s.cues[i] = .active c c.ramp h late ∧ MovesCue i c s (completeCue i s) := by
  rcases completeCue_cases i s with same | ⟨c, h, late, active, completed⟩
  · exact .inl same
  · refine .inr ⟨c, h, late, active, ?_⟩
    rw [completed]
    exact .of_set (by rw [active]; rfl) rfl rfl rfl fun l hl => getElem_set_of_ne _ hl _

/-! ## The stages -/

/-- The part after the ramp steps of a house sample. -/
def afterRamps (s : State) : State := (indices 32).foldl (fun t i => rampStep i t) s

/-- The part after the ramp steps of a house sample and the activations of the lanes below `k`. -/
def afterActivations (s : State) (k : Nat) : State :=
  ((indices 48).take k).foldl (fun t n => activateLane n t) (afterRamps s)

theorem afterActivations_zero (s : State) : afterActivations s 0 = afterRamps s := by
  rw [afterActivations, List.take_zero, List.foldl_nil]

theorem afterActivations_succ (l : Fin 48) (s : State) :
    afterActivations s (l.val + 1) = activateLane l (afterActivations s l.val) := by
  have next : (indices 48).take (l.val + 1) = (indices 48).take l.val ++ [l] := by
    rw [List.take_succ_eq_append_getElem (by simp [indices])]
    simp [indices]
  rw [afterActivations, next, List.foldl_append]
  rfl

theorem cueStage_eq (s : State) : cueStage s = afterActivations s 48 := by
  rw [afterActivations, List.take_of_length_le (by simp [indices])]
  rfl

theorem afterActivations_kept {P : State → Prop} (kept : ∀ n t, P t → P (activateLane n t)) {s : State}
    (hs : P (afterRamps s)) (k : Nat) : P (afterActivations s k) :=
  foldl_kept (P := P) (fun t n => kept n t) _ hs

theorem completionStage_kept {P : State → Prop} (kept : ∀ i t, P t → P (completeCue i t))
    (marks : ∀ t taken, P t → P { t with cueTaken := taken }) {s : State} (hs : P s) : P (completionStage s) :=
  marks _ _ (foldl_kept (P := P) (fun t i => kept i t) _ hs)

/-- One of the updates brings about what the others before it prepare and those after it keep. -/
theorem foldl_at {α : Type} {P Q : State → Prop} {g : State → α → State} {a : α}
    (before : ∀ t b, b ≠ a → P t → P (g t b)) (here : ∀ t, P t → Q (g t a)) (after : ∀ t b, b ≠ a → Q t → Q (g t b))
    {l : List α} (distinct : l.Nodup) (ha : a ∈ l) {s : State} (hs : P s) : Q (l.foldl g s) := by
  induction l generalizing s with
  | nil => cases ha
  | cons b l ih =>
    obtain ⟨fresh, rest⟩ := List.nodup_cons.mp distinct
    rw [List.foldl_cons]
    rcases List.mem_cons.mp ha with rfl | ha
    · refine foldl_each (P := Q) (Q := fun b _ => b ≠ a) (fun t b ht hb => after t b hb ht) (fun _ _ _ _ hb => hb) rest
        (here s hs) fun b hb => ?_
      rintro rfl
      exact fresh hb
    · refine ih rest ha (before s b ?_ hs)
      rintro rfl
      exact fresh ha

end Sys2Proof.Machine
end

section
/-! SUPPORT. What a house sample makes of a slot and its lane's list, and what it leaves as it was. -/

namespace Sys2Proof.Machine

/-! ## A slot that has a lane to itself (R113, R119, R120) -/

/-- Slot `i` has this record and lane `n` this list, and no other slot is ACTIVE on the lane. -/
structure SlotOn (i : Fin 32) (n : Fin 48) (slot : CueSlot) (list : List RouteEntry) (t : State) : Prop where
  cue : t.cues[i] = slot
  route : t.routes[n] = list
  alone : ∀ j, j ≠ i → t.cues[j].rampLane? ≠ some n

section
variable {i j : Fin 32} {n : Fin 48} {slot : CueSlot} {list : List RouteEntry} {c : Cue} {k : Nat} {h : Word32}
  {late : Nat} {s t : State}

theorem TableLaw.slotOn (hs : TableLaw s) (active : s.cues[i] = .active c k h late) :
    SlotOn i c.lane (.active c k h late) s.routes[c.lane] s :=
  ⟨active, rfl, hs.others_of_active active⟩

theorem SlotOn.of_moves (hs : SlotOn i n slot list s) (moved : MovesCue j c s t) (hj : j ≠ i) (hc : c.lane ≠ n) :
    SlotOn i n slot list t where
  cue := (moved.slots i hj.symm).trans hs.cue
  route := (moved.routes n hc.symm).trans hs.route
  alone m hm := moved.idle hc (hs.alone m hm)

/-- The slot and its lane's list get another record and another list. -/
theorem SlotOn.replace (hs : SlotOn i n slot list s) {slot' : CueSlot} {list' : List RouteEntry}
    (cues : t.cues = s.cues.set i slot') (routes : t.routes = s.routes.set n list') :
    SlotOn i n slot' list' t where
  cue := by rw [cues, getElem_set_self]
  route := by rw [routes, getElem_set_self]
  alone m hm := by
    rw [cues, getElem_set_of_ne _ hm]
    exact hs.alone m hm

theorem SlotOn.withMarks (hs : SlotOn i n slot list s) (taken : Vector Bool 48) :
    SlotOn i n slot list { s with cueTaken := taken } := ⟨hs.cue, hs.route, hs.alone⟩

theorem SlotOn.rampStep_other (hs : SlotOn i n slot list s) (hj : j ≠ i) : SlotOn i n slot list (rampStep j s) := by
  rcases rampStep_moves j s with same | ⟨c, k, h, late, active, -, moved⟩
  · rwa [same]
  · refine hs.of_moves moved hj fun lane => hs.alone j hj ?_
    rw [active, CueSlot.rampLane?_active, lane]

theorem SlotOn.rampStep_self (hs : SlotOn i c.lane (.active c k h late) list s) (free : s.cueTaken[c.lane] = false) :
    SlotOn i c.lane (.active c (k + 1) h late) (list.map (RouteEntry.rampTo (k + 1) c.ramp)) (rampStep i s) := by
  refine hs.replace ?_ ?_ <;> simp only [rampStep, hs.cue, free, hs.route, Bool.false_eq_true, if_false] <;> rfl

theorem SlotOn.activateLane (hs : SlotOn i n slot list s) (active : slot.rampLane? = some n) (m : Fin 48) :
    SlotOn i n slot list (activateLane m s) := by
  rcases activateLane_moves m s with same | ⟨j, c, armed, rfl, idle, moved⟩
  · rwa [same]
  · have own : s.cues[i].rampLane? = some n := by rw [hs.cue, active]
    refine hs.of_moves moved ?_ fun lane => idle i (lane ▸ own)
    rintro rfl
    rw [armed] at own
    cases own

theorem SlotOn.completeCue_other (hs : SlotOn i n slot list s) (hj : j ≠ i) :
    SlotOn i n slot list (completeCue j s) := by
  rcases completeCue_moves j s with same | ⟨c, h, late, active, moved⟩
  · rwa [same]
  · refine hs.of_moves moved hj fun lane => hs.alone j hj ?_
    rw [active, CueSlot.rampLane?_active, lane]

theorem SlotOn.completeCue_self (hs : SlotOn i c.lane (.active c c.ramp h late) list s) :
    SlotOn i c.lane (.spent c .completed late (some h)) (endRamp list) (completeCue i s) := by
  rw [completeCue_of_ended hs.cue, hs.route]
  exact hs.replace rfl rfl

/-! ### Through the stages -/

/-- The ramp step of an ACTIVE cue whose lane has not made its activation (R119). -/
theorem SlotOn.through_ramps (hs : SlotOn i c.lane (.active c k h late) list s) (free : s.cueTaken[c.lane] = false) :
    SlotOn i c.lane (.active c (k + 1) h late) (list.map (RouteEntry.rampTo (k + 1) c.ramp)) (afterRamps s) :=
  foldl_at (P := fun t => SlotOn i c.lane (.active c k h late) list t ∧ t.cueTaken[c.lane] = false)
    (fun t j hj ⟨on, free⟩ => ⟨on.rampStep_other hj, by rwa [rampStep_cueTaken]⟩)
    (fun _ ⟨on, free⟩ => on.rampStep_self free) (fun _ _ hj on => on.rampStep_other hj) (List.nodup_finRange 32)
    (mem_indices i) ⟨hs, free⟩

theorem SlotOn.through_activations (hs : SlotOn i n slot list (afterRamps s)) (active : slot.rampLane? = some n)
    (m : Nat) : SlotOn i n slot list (afterActivations s m) :=
  afterActivations_kept (P := SlotOn i n slot list) (fun m _ on => on.activateLane active m) hs m

/-- A cue at step N completes (R120). -/
theorem SlotOn.through_completions (hs : SlotOn i c.lane (.active c c.ramp h late) list s) :
    SlotOn i c.lane (.spent c .completed late (some h)) (endRamp list) (completionStage s) := by
  have completed : SlotOn i c.lane (.spent c .completed late (some h)) (endRamp list)
      ((indices 32).foldl (fun t i => completeCue i t) s) :=
    foldl_at (P := SlotOn i c.lane (.active c c.ramp h late) list) (fun _ _ hj on => on.completeCue_other hj)
      (fun _ on => on.completeCue_self) (fun _ _ hj on => on.completeCue_other hj) (List.nodup_finRange 32)
      (mem_indices i) hs
  exact completed.withMarks _

end

/-! ## Slots and lists that an operation leaves alone -/

section
variable {i j : Fin 32} {l n : Fin 48} {s : State}

/-- A slot whose cue takes no ramp step (R119). -/
theorem afterRamps_cue (still : ∀ c k h late, s.cues[i] = .active c k h late → s.cueTaken[c.lane] = true) :
    (afterRamps s).cues[i] = s.cues[i] := by
  obtain ⟨cue, -⟩ : (afterRamps s).cues[i] = s.cues[i] ∧ (afterRamps s).cueTaken = s.cueTaken := by
    refine foldl_kept (P := fun t => t.cues[i] = s.cues[i] ∧ t.cueTaken = s.cueTaken) (fun t j ⟨cue, taken⟩ => ?_) _
      ⟨rfl, rfl⟩
    refine ⟨?_, by rwa [rampStep_cueTaken]⟩
    rcases rampStep_moves j t with same | ⟨c, k, h, late, active, free, moved⟩
    · rwa [same]
    · refine (moved.slots i ?_).trans cue
      rintro rfl
      rw [cue] at active
      rw [taken, still c k h late active] at free
      cases free
  exact cue

/-- No cue is to take a ramp step on the lane. -/
def NoRampStep (l : Fin 48) (s : State) : Prop := (∀ i : Fin 32, s.cues[i].rampLane? ≠ some l) ∨ s.cueTaken[l] = true

theorem NoRampStep.rampStep (hs : NoRampStep l s) (j : Fin 32) :
    NoRampStep l (rampStep j s) ∧ (rampStep j s).routes[l] = s.routes[l] := by
  rcases rampStep_moves j s with same | ⟨c, k, h, late, active, free, moved⟩
  · rw [same]
    exact ⟨hs, rfl⟩
  · have elsewhere : c.lane ≠ l := by
      rintro rfl
      rcases hs with idle | taken
      · exact idle j (by rw [active, CueSlot.rampLane?_active])
      · exact Bool.false_ne_true (free.symm.trans taken)
    refine ⟨hs.imp (fun idle i => moved.idle elsewhere (idle i)) fun taken => ?_, moved.routes l elsewhere.symm⟩
    rwa [rampStep_cueTaken]

theorem afterRamps_route (hs : NoRampStep l s) : (afterRamps s).routes[l] = s.routes[l] := by
  obtain ⟨-, route⟩ : NoRampStep l (afterRamps s) ∧ (afterRamps s).routes[l] = s.routes[l] :=
    foldl_kept (P := fun t => NoRampStep l t ∧ t.routes[l] = s.routes[l])
      (fun t j ⟨still, route⟩ => (still.rampStep j).imp_right (Eq.trans · route)) _ ⟨hs, rfl⟩
  exact route

/-- The ramp steps touch slots and lists alone. -/
theorem afterRamps_rest (s : State) :
    afterRamps s = { s with cues := (afterRamps s).cues, routes := (afterRamps s).routes } := by
  refine foldl_kept (P := fun t => t = { s with cues := t.cues, routes := t.routes }) (fun t j rest => ?_) _ rfl
  rcases rampStep_cases j t with same | ⟨c, k, h, late, -, -, stepped⟩
  · rwa [same]
  · rw [stepped, rest]
    rfl

/-- A slot that is not ACTIVE at step N does not complete (R120). -/
theorem completionStage_cue (going : ∀ c h late, s.cues[i] ≠ .active c c.ramp h late) :
    (completionStage s).cues[i] = s.cues[i] := by
  refine completionStage_kept (P := fun t => t.cues[i] = s.cues[i]) (fun j t cue => ?_) (fun _ _ ht => ht) rfl
  rcases completeCue_moves j t with same | ⟨c, h, late, active, moved⟩
  · rwa [same]
  · refine (moved.slots i ?_).trans cue
    rintro rfl
    exact going c h late (cue ▸ active)

/-- A list of a lane on which no cue stands at step N. -/
theorem completionStage_route
    (going : ∀ (i : Fin 32) (c : Cue) (h : Word32) (late : Nat), s.cues[i] = .active c c.ramp h late → c.lane ≠ l) :
    (completionStage s).routes[l] = s.routes[l] := by
  obtain ⟨-, route⟩ : (∀ (i : Fin 32) (c : Cue) (h : Word32) (late : Nat),
      (completionStage s).cues[i] = .active c c.ramp h late → c.lane ≠ l) ∧
      (completionStage s).routes[l] = s.routes[l] := by
    refine completionStage_kept (P := fun t => (∀ (i : Fin 32) (c : Cue) (h : Word32) (late : Nat),
      t.cues[i] = .active c c.ramp h late → c.lane ≠ l) ∧ t.routes[l] = s.routes[l]) (fun j t ⟨going, route⟩ => ?_)
      (fun _ _ ht => ht) ⟨going, rfl⟩
    rcases completeCue_moves j t with same | ⟨c, h, late, active, moved⟩
    · rw [same]
      exact ⟨going, route⟩
    have elsewhere := going j c h late active
    refine ⟨fun i c' h' late' active' => ?_, (moved.routes l elsewhere.symm).trans route⟩
    by_cases hi : i = j
    · have gets := moved.gets
      rw [hi] at active'
      rw [active'] at gets
      obtain rfl : c' = c := Option.some.inj gets
      exact elsewhere
    · exact going i c' h' late' (moved.slots i hi ▸ active')
  exact route

end

/-! ## A slot that holds no waiting and no ACTIVE cue -/

/-- The slot is neither ARMED nor ACTIVE. -/
def CueSlot.AtRest (slot : CueSlot) : Prop := slot.isArmed = false ∧ slot.rampLane? = none

section
variable {i : Fin 32} {s : State}

theorem MovesCue.keeps_rest {j : Fin 32} {c : Cue} {t : State} (moved : MovesCue j c s t) (busy : ¬s.cues[j].AtRest)
    (rest : s.cues[i].AtRest) : t.cues[i] = s.cues[i] := by
  refine moved.slots i ?_
  rintro rfl
  exact busy rest

theorem CueSlot.not_atRest_armed (c : Cue) : ¬(CueSlot.armed c).AtRest := nofun

theorem CueSlot.not_atRest_active (c : Cue) (k : Nat) (h : Word32) (late : Nat) :
    ¬(CueSlot.active c k h late).AtRest := fun ⟨_, idle⟩ => by cases idle

theorem rampStep_keeps_rest (rest : s.cues[i].AtRest) (j : Fin 32) : (rampStep j s).cues[i] = s.cues[i] := by
  rcases rampStep_moves j s with same | ⟨c, k, h, late, active, -, moved⟩
  · rw [same]
  · exact moved.keeps_rest (by rw [active]; exact CueSlot.not_atRest_active c k h late) rest

theorem activateLane_keeps_rest (rest : s.cues[i].AtRest) (n : Fin 48) : (activateLane n s).cues[i] = s.cues[i] := by
  rcases activateLane_moves n s with same | ⟨j, c, armed, -, -, moved⟩
  · rw [same]
  · exact moved.keeps_rest (by rw [armed]; exact CueSlot.not_atRest_armed c) rest

theorem completeCue_keeps_rest (rest : s.cues[i].AtRest) (j : Fin 32) : (completeCue j s).cues[i] = s.cues[i] := by
  rcases completeCue_moves j s with same | ⟨c, h, late, active, moved⟩
  · rw [same]
  · exact moved.keeps_rest (by rw [active]; exact CueSlot.not_atRest_active c c.ramp h late) rest

/-- A slot at rest stays as it is (R113, R120). -/
theorem cueStages_cue_of_rest (rest : s.cues[i].AtRest) : (completionStage (cueStage s)).cues[i] = s.cues[i] := by
  have stepped : (afterRamps s).cues[i] = s.cues[i] :=
    foldl_kept (P := fun t => t.cues[i] = s.cues[i])
      (fun t j ht => (rampStep_keeps_rest (ht ▸ rest) j).trans ht) _ rfl
  rw [cueStage_eq]
  exact completionStage_kept (P := fun t => t.cues[i] = s.cues[i])
    (fun j t ht => (completeCue_keeps_rest (ht ▸ rest) j).trans ht) (fun _ _ ht => ht)
    (afterActivations_kept (P := fun t => t.cues[i] = s.cues[i])
      (fun n t ht => (activateLane_keeps_rest (ht ▸ rest) n).trans ht) stepped 48)

end

/-! ## A lane with no ACTIVE and no due ARMED cue -/

/-- No cue is ACTIVE on the lane, and none waits for it. -/
structure QuietLane (l : Fin 48) (s : State) : Prop where
  idle : ∀ i : Fin 32, s.cues[i].rampLane? ≠ some l
  unwaited : ∀ i : Fin 32, s.cues[i].waits l s.hcu.count = false

/-- From `s` to `t` the lane's list, and every slot that holds a cue for it, stay as they are. -/
structure KeepsLane (l : Fin 48) (s t : State) : Prop where
  route : t.routes[l] = s.routes[l]
  slots : ∀ (i : Fin 32) (c : Cue), s.cues[i].cue? = some c → c.lane = l → t.cues[i] = s.cues[i]

section
variable {l : Fin 48} {s t u : State}

theorem KeepsLane.refl (l : Fin 48) (s : State) : KeepsLane l s s := ⟨rfl, fun _ _ _ _ => rfl⟩

theorem KeepsLane.trans (h : KeepsLane l s t) (h' : KeepsLane l t u) : KeepsLane l s u where
  route := h'.route.trans h.route
  slots i c cue lane := by
    have same := h.slots i c cue lane
    exact (h'.slots i c (by rwa [same]) lane).trans same

/-- A move of another lane's cue leaves a quiet lane quiet and as it is. -/
theorem QuietLane.of_moves {j : Fin 32} {c : Cue} (quiet : QuietLane l s) (moved : MovesCue j c s t) (hl : c.lane ≠ l)
    (hcu : t.hcu = s.hcu) : QuietLane l t ∧ KeepsLane l s t := by
  refine ⟨⟨fun i => moved.idle hl (quiet.idle i), fun i => ?_⟩, moved.routes l hl.symm, fun i d cue lane => ?_⟩
  · by_cases hi : i = j
    · rw [hi]
      exact CueSlot.waits_eq_false_of_started moved.started l _
    · rw [moved.slots i hi, hcu]
      exact quiet.unwaited i
  · refine moved.slots i ?_
    rintro rfl
    obtain rfl : c = d := Option.some.inj (moved.holds.symm.trans cue)
    exact hl lane

theorem QuietLane.elsewhere {i : Fin 32} {c : Cue} {k : Nat} {h : Word32} {late : Nat} (quiet : QuietLane l s)
    (active : s.cues[i] = .active c k h late) : c.lane ≠ l := fun lane =>
  quiet.idle i (by rw [active, CueSlot.rampLane?_active, lane])

theorem QuietLane.rampStep (quiet : QuietLane l s) (i : Fin 32) :
    QuietLane l (rampStep i s) ∧ KeepsLane l s (rampStep i s) := by
  rcases rampStep_moves i s with same | ⟨c, k, h, late, active, -, moved⟩
  · rw [same]
    exact ⟨quiet, .refl l s⟩
  · exact quiet.of_moves moved (quiet.elsewhere active) (rampStep_hcu s i)

theorem QuietLane.activateLane (quiet : QuietLane l s) (n : Fin 48) :
    QuietLane l (activateLane n s) ∧ KeepsLane l s (activateLane n s) := by
  by_cases hn : n = l
  · rw [hn, activateLane_of_none quiet.unwaited]
    exact ⟨quiet, .refl l s⟩
  rcases activateLane_moves n s with same | ⟨i, c, -, rfl, -, moved⟩
  · rw [same]
    exact ⟨quiet, .refl l s⟩
  · exact quiet.of_moves moved hn (activateLane_hcu s _)

theorem QuietLane.completeCue (quiet : QuietLane l s) (i : Fin 32) :
    QuietLane l (completeCue i s) ∧ KeepsLane l s (completeCue i s) := by
  rcases completeCue_moves i s with same | ⟨c, h, late, active, moved⟩
  · rw [same]
    exact ⟨quiet, .refl l s⟩
  · exact quiet.of_moves moved (quiet.elsewhere active) (completeCue_hcu s i)

/-- A quiet lane keeps its list and its slots (R113). -/
theorem QuietLane.cueStages (quiet : QuietLane l s) : KeepsLane l s (completionStage (cueStage s)) := by
  have stepped : QuietLane l (afterRamps s) ∧ KeepsLane l s (afterRamps s) :=
    foldl_kept (P := fun t => QuietLane l t ∧ KeepsLane l s t)
      (fun _ i ⟨quiet, keeps⟩ => (quiet.rampStep i).imp_right keeps.trans) _ ⟨quiet, .refl l s⟩
  have activated := afterActivations_kept (P := fun t => QuietLane l t ∧ KeepsLane l s t)
    (fun n _ ⟨quiet, keeps⟩ => (quiet.activateLane n).imp_right keeps.trans) stepped 48
  rw [← cueStage_eq] at activated
  obtain ⟨-, keeps⟩ := completionStage_kept (P := fun t => QuietLane l t ∧ KeepsLane l s t)
    (fun i _ ⟨quiet, keeps⟩ => (quiet.completeCue i).imp_right keeps.trans)
    (fun _ _ ⟨quiet, keeps⟩ => ⟨⟨quiet.idle, quiet.unwaited⟩, keeps.route, keeps.slots⟩) activated
  exact keeps

end

end Sys2Proof.Machine
end

section
/-! SUPPORT. Cue Done at a house sample: raised for exactly the slots that become SPENT. -/

namespace Sys2Proof.Machine

/-! ## Raises that follow one another (R154) -/

section
variable {p q r : Nat → Prop} {a b c : Condition}

theorem Condition.RaisedBy.refl_of (none : ∀ n, ¬p n) (a : Condition) : Condition.RaisedBy p a a := by
  simp [Condition.RaisedBy, none]

theorem Condition.RaisedBy.trans (hab : Condition.RaisedBy p a b) (hbc : Condition.RaisedBy q b c)
    (items : ∀ n, r n ↔ p n ∨ q n) : Condition.RaisedBy r a c := by
  obtain ⟨enabled, inService, latched, detail⟩ := hab
  obtain ⟨enabled', inService', latched', detail'⟩ := hbc
  refine ⟨enabled'.trans enabled, inService'.trans inService, ?_, fun n hn => ?_⟩
  · simp only [latched', latched, items, and_or_left, exists_or, or_assoc]
  · rw [detail' n hn, detail n hn, items, or_assoc]

theorem Condition.RaisedBy.of_iff (h : Condition.RaisedBy p a b) (items : ∀ n, p n ↔ q n) :
    Condition.RaisedBy q a b := by
  rwa [funext fun n => propext (items n).symm]

end

/-- One item's raise (R154). -/
theorem raise_oneBit_raisedBy {n : Nat} (hn : n < 64) (c : Cond) (s : State) : Condition.RaisedBy (· = n)
    s.conditions[c.index] (s.raise c (oneBit n)).conditions[c.index] := by
  rw [raise_conditions, if_pos rfl]
  refine ⟨rfl, rfl, by simp [hn], fun m hm => ?_⟩
  have bit : (oneBit n).getLsbD m = true ↔ m = n := by
    simp only [oneBit, BitVec.getLsbD_shiftLeft, BitVec.getLsbD_one]
    simp [hm]
    omega
  rw [BitVec.getLsbD_or, Bool.or_eq_true, bit]

/-! ## The slots that become SPENT (R128) -/

/-- The slot is SPENT. -/
def CueSlot.Spent (slot : CueSlot) : Prop := ∃ c o late h, slot = .spent c o late h

/-- Slot `n` is SPENT in `t` and was not in `s`. -/
def BecomesSpent (s t : State) (n : Nat) : Prop := ∃ i : Fin 32, i.val = n ∧ ¬s.cues[i].Spent ∧ t.cues[i].Spent

/-- From `s` to `t` Cue Done is raised for exactly the slots that become SPENT, and every SPENT slot stays so. -/
structure RaisesSpent (s t : State) : Prop where
  raised : Condition.RaisedBy (BecomesSpent s t) s.conditions[Cond.cueDone.index] t.conditions[Cond.cueDone.index]
  stays : ∀ i : Fin 32, s.cues[i].Spent → t.cues[i].Spent

section
variable {s t u : State}

/-- No slot becomes SPENT, and Cue Done is not raised. -/
theorem RaisesSpent.of_same (spent : ∀ i : Fin 32, t.cues[i].Spent ↔ s.cues[i].Spent)
    (same : KeepsCondition Cond.cueDone.index s t) : RaisesSpent s t where
  raised := by
    rw [same]
    refine .refl_of ?_ _
    rintro n ⟨i, -, before, after⟩
    exact before ((spent i).mp after)
  stays i := (spent i).mpr

theorem RaisesSpent.refl (s : State) : RaisesSpent s s := .of_same (fun _ => Iff.rfl) (.refl _ s)

theorem RaisesSpent.trans (h : RaisesSpent s t) (h' : RaisesSpent t u) : RaisesSpent s u where
  raised := by
    refine h.raised.trans h'.raised fun n => ?_
    constructor
    · rintro ⟨i, hi, before, after⟩
      by_cases between : t.cues[i].Spent
      · exact .inl ⟨i, hi, before, between⟩
      · exact .inr ⟨i, hi, between, after⟩
    · rintro (⟨i, hi, before, after⟩ | ⟨i, hi, before, after⟩)
      · exact ⟨i, hi, before, h'.stays i after⟩
      · exact ⟨i, hi, fun spent => before (h.stays i spent), after⟩
  stays i spent := h'.stays i (h.stays i spent)

/-- A slot gets another record, SPENT neither before nor after. -/
theorem RaisesSpent.of_set {i : Fin 32} {slot : CueSlot} (before : ¬s.cues[i].Spent) (after : ¬slot.Spent)
    (cues : t.cues = s.cues.set i slot) (same : KeepsCondition Cond.cueDone.index s t) : RaisesSpent s t := by
  refine .of_same (fun j => ?_) same
  by_cases hj : j = i
  · rw [hj, cues, getElem_set_self]
    exact iff_of_false after before
  · rw [cues, getElem_set_of_ne _ hj]

/-- A slot becomes SPENT, and Cue Done is raised for it (R128). -/
theorem RaisesSpent.of_spend {i : Fin 32} {slot : CueSlot} (before : ¬s.cues[i].Spent) (after : slot.Spent)
    (cues : t.cues = s.cues.set i slot) (same : KeepsCondition Cond.cueDone.index s t) :
    RaisesSpent s (t.raise .cueDone (slotBit i)) := by
  have other {j : Fin 32} (hj : j ≠ i) : (t.raise .cueDone (slotBit i)).cues[j] = s.cues[j] := by
    rw [State.raise_cues, cues, getElem_set_of_ne _ hj]
  have own : (t.raise .cueDone (slotBit i)).cues[i] = slot := by rw [State.raise_cues, cues, getElem_set_self]
  constructor
  · have raised := raise_oneBit_raisedBy (by omega : i.val < 64) .cueDone t
    rw [same] at raised
    have items : BecomesSpent s (t.raise .cueDone (slotBit i)) = (· = i.val) := by
      funext n
      refine propext ⟨?_, ?_⟩
      · rintro ⟨j, rfl, unspent, spent⟩
        by_contra hj
        rw [other (fun same => hj (congrArg Fin.val same))] at spent
        exact unspent spent
      · rintro rfl
        exact ⟨i, rfl, before, own ▸ after⟩
    rw [items]
    exact raised
  · intro j spent
    by_cases hj : j = i
    · rw [hj, own]
      exact after
    · rwa [other hj]

end

theorem CueSlot.not_spent_armed (c : Cue) : ¬(CueSlot.armed c).Spent := nofun

theorem CueSlot.not_spent_active (c : Cue) (k : Nat) (h : Word32) (late : Nat) : ¬(CueSlot.active c k h late).Spent :=
  nofun

theorem CueSlot.spent_spent (c : Cue) (o : CueOutcome) (late : Nat) (h : Option Word32) :
    (CueSlot.spent c o late h).Spent := ⟨c, o, late, h, rfl⟩

/-! ## The operations of the cue table -/

theorem rampStep_raisesSpent (i : Fin 32) (s : State) : RaisesSpent s (rampStep i s) := by
  rcases rampStep_cases i s with same | ⟨c, k, h, late, active, -, stepped⟩
  · rw [same]
    exact .refl s
  · rw [stepped]
    exact .of_set (by rw [active]; exact CueSlot.not_spent_active c k h late)
      (CueSlot.not_spent_active c (k + 1) h late) rfl rfl

theorem runWinner_raisesSpent {i : Fin 32} {c : Cue} {s : State} (armed : s.cues[i] = .armed c) (h : Word32)
    (taken : Vector Bool 48) : RaisesSpent s (runWinner i c h { s with cueTaken := taken }) := by
  have before : ¬s.cues[i].Spent := by
    rw [armed]
    exact CueSlot.not_spent_armed c
  by_cases fits : unionFits (poolUsed s.routes) s.routes[c.lane] c.targets = true
  · rw [runWinner_of_union (by exact fits)]
    exact .of_set before (CueSlot.not_spent_active c 0 h _) rfl rfl
  by_cases cut : poolFits (poolUsed s.routes) s.routes[c.lane].length c.targets.length = true
  · rw [runWinner_of_cut (by exact fits) (by exact cut)]
    exact .of_spend before (CueSlot.spent_spent ..) rfl rfl
  · rw [runWinner_of_noroom (by exact fits) (by exact cut)]
    exact .of_spend before (CueSlot.spent_spent ..) rfl rfl

theorem activateLane_raisesSpent (n : Fin 48) (s : State) : RaisesSpent s (activateLane n s) := by
  rcases activateLane_cases n s with same | ⟨i, c, armed, -, -, ran⟩
  · rw [same]
    exact .refl s
  · rw [ran]
    exact runWinner_raisesSpent armed _ _

theorem completeCue_raisesSpent (i : Fin 32) (s : State) : RaisesSpent s (completeCue i s) := by
  rcases completeCue_cases i s with same | ⟨c, h, late, active, completed⟩
  · rw [same]
    exact .refl s
  · rw [completed]
    exact .of_spend (by rw [active]; exact CueSlot.not_spent_active c c.ramp h late) (CueSlot.spent_spent ..) rfl rfl

/-- The cue table at a house sample raises Cue Done for exactly the slots that become SPENT (R128, R154). -/
theorem cueStages_raisesSpent (s : State) : RaisesSpent s (completionStage (cueStage s)) := by
  have stepped : RaisesSpent s (afterRamps s) :=
    foldl_kept (P := RaisesSpent s) (fun t i ht => ht.trans (rampStep_raisesSpent i t)) _ (.refl s)
  rw [cueStage_eq]
  exact completionStage_kept (P := RaisesSpent s) (fun i t ht => ht.trans (completeCue_raisesSpent i t))
    (fun _ _ ht => ⟨ht.raised, ht.stays⟩)
    (afterActivations_kept (P := RaisesSpent s) (fun n t ht => ht.trans (activateLane_raisesSpent n t)) stepped 48)

end Sys2Proof.Machine
end

section
/-! SUPPORT. The cue table at a house sample: its stages read and write the cue table, the route lists and Cue Done
alone, so the whole house sample leaves what they make of the part as the event finds it. -/

namespace Sys2Proof.Machine

/-! ## What the cue table's stages read -/

/-- The two states have the same slots, lists, marks, clock and Cue Done. -/
structure SharesCues (s t : State) : Prop where
  cues : t.cues = s.cues
  routes : t.routes = s.routes
  taken : t.cueTaken = s.cueTaken
  hcu : t.hcu = s.hcu
  cueDone : KeepsCondition Cond.cueDone.index s t

section
variable {s t : State}

theorem SharesCues.withRoutes (h : SharesCues s t) (n : Fin 48) (list : List RouteEntry) :
    SharesCues (s.withRoutes n list) (t.withRoutes n list) where
  cues := h.cues
  routes := congrArg (fun routes : Vector (List RouteEntry) 48 => routes.set n list) h.routes
  taken := h.taken
  hcu := h.hcu
  cueDone := h.cueDone

theorem SharesCues.withCue (h : SharesCues s t) (i : Fin 32) (slot : CueSlot) :
    SharesCues (s.withCue i slot) (t.withCue i slot) where
  cues := congrArg (fun cues : Vector CueSlot 32 => cues.set i slot) h.cues
  routes := h.routes
  taken := h.taken
  hcu := h.hcu
  cueDone := h.cueDone

theorem SharesCues.withMarks (h : SharesCues s t) (taken : Vector Bool 48) :
    SharesCues { s with cueTaken := taken } { t with cueTaken := taken } where
  cues := h.cues
  routes := h.routes
  taken := rfl
  hcu := h.hcu
  cueDone := h.cueDone

theorem SharesCues.raise (h : SharesCues s t) (items : BitVec 64) :
    SharesCues (s.raise .cueDone items) (t.raise .cueDone items) where
  cues := h.cues
  routes := h.routes
  taken := h.taken
  hcu := h.hcu
  cueDone := by
    have same := h.cueDone
    rw [KeepsCondition] at same ⊢
    rw [raise_conditions, raise_conditions, same]

theorem SharesCues.rampStep (h : SharesCues s t) (i : Fin 32) : SharesCues (rampStep i s) (rampStep i t) := by
  simp only [Machine.rampStep, h.cues, h.routes, h.taken]
  cases s.cues[i] with
  | active c k count late =>
    dsimp only
    split
    · exact h
    · exact (h.withRoutes _ _).withCue _ _
  | _ => exact h

theorem SharesCues.runWinner (h : SharesCues s t) (i : Fin 32) (c : Cue) (count : Word32) :
    SharesCues (runWinner i c count s) (runWinner i c count t) := by
  simp only [Machine.runWinner, h.routes]
  split
  · exact (h.withRoutes _ _).withCue _ _
  split
  · exact ((h.withRoutes _ _).withCue _ _).raise _
  · exact (h.withCue _ _).raise _

theorem SharesCues.activateLane (h : SharesCues s t) (n : Fin 48) :
    SharesCues (activateLane n s) (activateLane n t) := by
  have closed : (cueActiveOn t.cues n || t.cueTaken[n]) = (cueActiveOn s.cues n || s.cueTaken[n]) := by
    rw [h.cues, h.taken]
  have won : winner t.cues n s.hcu.count = winner s.cues n s.hcu.count := by rw [h.cues]
  have slot (i : Fin 32) : t.cues[i] = s.cues[i] := by rw [h.cues]
  have count : t.hcu.count = s.hcu.count := by rw [h.hcu]
  have marks : t.cueTaken.set n true = s.cueTaken.set n true := by rw [h.taken]
  simp only [Machine.activateLane, closed, won, slot, count, marks]
  split
  · exact h
  cases winner s.cues n s.hcu.count with
  | none => exact h
  | some i =>
    dsimp only
    cases s.cues[i] with
    | armed c => exact (h.withMarks _).runWinner i c _
    | _ => exact h

theorem SharesCues.completeCue (h : SharesCues s t) (i : Fin 32) : SharesCues (completeCue i s) (completeCue i t) := by
  simp only [Machine.completeCue, h.cues, h.routes]
  cases s.cues[i] with
  | active c k count late =>
    dsimp only
    split
    · exact ((h.withRoutes _ _).withCue _ _).raise _
    · exact h
  | _ => exact h

theorem SharesCues.foldl {α : Type} {g : State → α → State}
    (each : ∀ {s t : State}, SharesCues s t → ∀ a, SharesCues (g s a) (g t a)) (h : SharesCues s t) (l : List α) :
    SharesCues (l.foldl g s) (l.foldl g t) := by
  induction l generalizing s t with
  | nil => exact h
  | cons a l ih => exact ih (each h a)

theorem SharesCues.cueStage (h : SharesCues s t) : SharesCues (cueStage s) (cueStage t) :=
  .foldl (fun h n => h.activateLane n) (.foldl (fun h i => h.rampStep i) h _) _

theorem SharesCues.completionStage (h : SharesCues s t) : SharesCues (completionStage s) (completionStage t) :=
  (SharesCues.foldl (fun h i => h.completeCue i) h _).withMarks _

theorem SharesCues.trans {u : State} (h : SharesCues s t) (h' : SharesCues t u) : SharesCues s u where
  cues := h'.cues.trans h.cues
  routes := h'.routes.trans h.routes
  taken := h'.taken.trans h.taken
  hcu := h'.hcu.trans h.hcu
  cueDone := h.cueDone.trans h'.cueDone

end

/-! ## The other stages of a house sample -/

theorem withPorts_keepsCueDone (ports : Vector Port 6) (s : State) :
    KeepsCondition Cond.cueDone.index s (s.withPorts ports) := by
  simp only [State.withPorts]
  split
  · exact evaluateLanes_keepsCondition (by decide)
  · exact .refl _ s

/-- A loss raises no Cue Done. -/
theorem loss_sharesCues (k : Fin 6) (s : State) : SharesCues s (loss k s) where
  cues := loss_cues s k
  routes := loss_routes s k
  taken := loss_cueTaken s k
  hcu := loss_hcu s k
  cueDone := (withPorts_keepsCueDone _ s).raise (by decide) _

/-- The frame timeouts taken before a house sample event leave the cue table alone. -/
theorem timeoutsFirst_sharesCues (s : State) : SharesCues s (timeoutsFirst s) := by
  have drawn {t : State} (ht : SharesCues s t) : SharesCues s { t with draws := t.draws + 1 } :=
    ⟨ht.cues, ht.routes, ht.taken, ht.hcu, ht.cueDone⟩
  have losses (fuel : Nat) : ∀ t, SharesCues s t → SharesCues s (lossesFirst fuel t) := by
    induction fuel with
    | zero => exact fun _ ht => ht
    | succ fuel ih =>
      intro t ht
      rcases lossesFirst_succ fuel t with ⟨-, h⟩ | ⟨-, h⟩ | ⟨k, -, h⟩
      · rwa [h]
      · rw [h]
        exact drawn ht
      · rw [h]
        exact ih _ ((drawn ht).trans (loss_sharesCues k _))
  exact losses _ s ⟨rfl, rfl, rfl, rfl, .refl _ s⟩

/-- The ports' and the lanes' stages leave the cue table alone. -/
theorem beforeMix_sharesCues (s : State) : SharesCues (cueStage s) (beforeMix s) := by
  have found : SharesCues s (lanesStage (portsStage s).2 (portsStage s).1).1 := by
    refine ⟨by simp, by simp, by simp, by simp, ?_⟩
    rw [KeepsCondition, lanesStage_conditions]
    exact portsStage_keepsCondition (by decide) s
  exact found.cueStage

theorem mixStage_sharesCues (outs : Vector Sample 48) (s : State) : SharesCues s (mixStage outs s).1 where
  cues := by simp
  routes := by simp
  taken := by simp
  hcu := by simp
  cueDone := mixStage_keepsCondition (by decide) outs s

/-- A house sample leaves the slots, the lists, the marks and Cue Done as the cue table's stages make them. -/
theorem endSample_cues (s : State) : (endSample s).cues = (completionStage (cueStage s)).cues ∧
    (endSample s).routes = (completionStage (cueStage s)).routes ∧
    (endSample s).cueTaken = Vector.replicate 48 false ∧
    KeepsCondition Cond.cueDone.index (completionStage (cueStage s)) (endSample s) := by
  have made := (((timeoutsFirst_sharesCues s).cueStage.trans (beforeMix_sharesCues _)).trans
    (mixStage_sharesCues (laneOuts (timeoutsFirst s)) _)).completionStage
  have tested := runTest_keepsCondition (i := Cond.cueDone.index) (by decide)
  rw [KeepsCondition]
  simp only [endSample, houseSample, signalPath, egressStage_cues, runTest_cues, lineStage_cues, egressStage_routes,
    runTest_routes, lineStage_routes, egressStage_cueTaken, runTest_cueTaken, lineStage_cueTaken,
    egressStage_conditions]
  rw [tested, lineStage_conditions]
  exact ⟨made.cues, made.routes, made.taken, made.cueDone⟩

end Sys2Proof.Machine
end

section
/-! SUPPORT. The cue table at a house sample, clause by clause: ramp steps, activations, completions, and what is
kept. -/

namespace Sys2Proof.Machine

/-! ## The laws between the stages -/

section
variable {s : State}

theorem RouteLaw.after_ramps (hs : RouteLaw s) : TableLaw (afterRamps s) := by
  obtain ⟨table, ends⟩ := routeLaw_iff.mp hs
  exact foldl_each (Q := fun i t => EndsTaken t i) (fun _ _ ht hq => ht.rampStep hq)
    (fun _ _ _ hj hq => hq.rampStep_other hj) (List.nodup_finRange 32) table fun i _ => ends i

theorem RouteLaw.after_activations (hs : RouteLaw s) (k : Nat) : TableLaw (afterActivations s k) :=
  afterActivations_kept (fun n _ ht => ht.activateLane n) hs.after_ramps k

theorem TableLaw.ascending (hs : TableLaw s) : Ascending s := by
  refine ⟨fun l => ?_, fun i c hc => ?_⟩
  · obtain ⟨-, ascending, -⟩ := hs.lists l
    exact ascending
  · obtain ⟨-, lawful⟩ := hs.records i
    obtain ⟨-, -, -, ascending, -⟩ := lawful c (Option.mem_toList.mp hc)
    exact ascending

end

/-! ## A ramp step (R113, R119) -/

/-- A list at step k of a ramp of N, entry by entry (R119). -/
theorem map_rampTo_eq (k n : Nat) (list : List RouteEntry) : list.map (RouteEntry.rampTo (k + 1) n) =
    list.map fun e => { e with gain := (e.ramp.map fun r =>
      ((r.start : Int) + (((r.target : Int) - r.start) * (k + 1)).tdiv n).toNat).getD e.gain } := by
  refine List.map_congr_left fun e _ => ?_
  obtain ⟨line, gain, ramp⟩ := e
  cases ramp <;> rfl

section
variable {i : Fin 32} {c : Cue} {k : Nat} {h : Word32} {late : Nat} {s : State}

/-- An ACTIVE cue whose lane has not made its activation, after the ramp steps and activations. -/
theorem RouteLaw.slotOn_step (hs : RouteLaw s) (active : s.cues[i] = .active c k h late)
    (free : s.cueTaken[c.lane] = false) (m : Nat) :
    SlotOn i c.lane (.active c (k + 1) h late) (s.routes[c.lane].map (RouteEntry.rampTo (k + 1) c.ramp))
      (afterActivations s m) := by
  obtain ⟨table, -⟩ := routeLaw_iff.mp hs
  exact ((table.slotOn active).through_ramps free).through_activations rfl m

/-- A cue that is to take a ramp step has one to take. -/
theorem RouteLaw.step_le (hs : RouteLaw s) (active : s.cues[i] = .active c k h late)
    (free : s.cueTaken[c.lane] = false) : k + 1 ≤ c.ramp := by
  obtain ⟨table, ends⟩ := routeLaw_iff.mp hs
  obtain ⟨within, -⟩ := table.ramp_of_active active
  refine lt_of_le_of_ne within fun ended => ?_
  have taken := ends i c k (CueSlot.ramping?_eq_some.mpr ⟨h, late, active⟩) ended
  exact Bool.false_ne_true (free.symm.trans taken)

/-- A ramp that goes on after its step (R113, R119). -/
theorem cueStages_of_step (hs : RouteLaw s) (active : s.cues[i] = .active c k h late)
    (free : s.cueTaken[c.lane] = false) (more : k + 1 < c.ramp) :
    (completionStage (cueStage s)).cues[i] = .active c (k + 1) h late ∧
    (completionStage (cueStage s)).routes[c.lane] = s.routes[c.lane].map (RouteEntry.rampTo (k + 1) c.ramp) := by
  have on := hs.slotOn_step active free 48
  rw [← cueStage_eq] at on
  have going (d : Cue) (h' : Word32) (late' : Nat) : (cueStage s).cues[i] ≠ .active d d.ramp h' late' := by
    rw [on.cue, ne_eq, CueSlot.active.injEq]
    rintro ⟨rfl, ended, -⟩
    exact more.ne ended
  refine ⟨(completionStage_cue going).trans on.cue, (completionStage_route fun j d h' late' ended lane => ?_).trans
    on.route⟩
  by_cases hj : j = i
  · exact going d h' late' (hj ▸ ended)
  · exact on.alone j hj (by rw [ended, CueSlot.rampLane?_active, lane])

/-- A ramp that reaches step N completes, and its lane's list is its target set (R120). -/
theorem cueStages_of_last (hs : RouteLaw s) (active : s.cues[i] = .active c k h late)
    (free : s.cueTaken[c.lane] = false) (last : ¬k + 1 < c.ramp) :
    (completionStage (cueStage s)).cues[i] = .spent c .completed late (some h) ∧
    (completionStage (cueStage s)).routes[c.lane] = plainEntries c.targets := by
  have on := hs.slotOn_step active free 48
  have ended : k + 1 = c.ramp := le_antisymm (hs.step_le active free) (not_lt.mp last)
  rw [← cueStage_eq, ended] at on
  have table := hs.cueStage
  have targets := (table.ramp_of_active on.cue).endRamp (table.list_of_active on.cue)
  rw [on.route] at targets
  exact ⟨on.through_completions.cue, on.through_completions.route.trans targets⟩

end

/-- A lane without an ACTIVE and without a due ARMED cue is quiet (R114). -/
theorem quietLane_of {l : Fin 48} {s : State} (idle : ∀ i : Fin 32, s.cues[i].rampLane? ≠ some l)
    (early : ∀ (i : Fin 32) (c : Cue), s.cues[i] = .armed c → c.lane = l → 2 ^ 31 ≤ (s.hcu.count - c.due).toNat) :
    QuietLane l s := by
  refine ⟨idle, fun i => Bool.eq_false_iff.mpr fun waits => ?_⟩
  obtain ⟨c, armed, lane, due⟩ := CueSlot.waits_iff.mp waits
  exact absurd due (not_lt.mpr (early i c armed lane))

/-- Settles O8: the ramp steps, the activations in lane order on `afterActivations`, the completions, the quiet lanes,
the slots at rest, the marks and Cue Done. -/
theorem houseSampleRamp : Obligations.HouseSampleRamp := by
  intro s law
  obtain ⟨cues, routes, taken, done⟩ := endSample_cues s
  refine ⟨endSample s, rfl, ?_⟩
  rw [KeepsCondition] at done
  simp only [cues, routes, taken, done]
  obtain ⟨table, -⟩ := routeLaw_iff.mp law
  refine ⟨fun i c k h late active free => ?_, ⟨afterActivations s, ?_, fun i => ?_, fun l still => ?_,
    fun i c k h late active free => ?_, fun l => ⟨(law.after_activations l.val).ascending, ?_⟩,
    fun i c h late ended => ?_, fun i going => ?_, fun l going => ?_⟩, fun l idle early => ?_,
    fun i unarmed idle => ?_, fun l => ?_, ?_⟩
  · split
    next more =>
      rw [← map_rampTo_eq]
      exact cueStages_of_step law active free more
    next last => exact cueStages_of_last law active free last
  · rw [afterActivations_zero]
    exact afterRamps_rest s
  · rw [afterActivations_zero]
    cases hs : s.cues[i] with
    | active c k h late =>
      dsimp only
      split
      next marked =>
        refine (afterRamps_cue fun d k' h' late' active => ?_).trans hs
        cases hs.symm.trans active
        exact marked
      next free => exact ((table.slotOn hs).through_ramps (by simpa using free)).cue
    | _ => exact (afterRamps_cue fun d k' h' late' active => nomatch hs.symm.trans active).trans hs
  · rw [afterActivations_zero]
    exact afterRamps_route still
  · rw [afterActivations_zero, ← map_rampTo_eq]
    exact ((table.slotOn active).through_ramps free).route
  · rw [afterActivations_succ]
    rfl
  · rw [← cueStage_eq] at ended ⊢
    have completed := (law.cueStage.slotOn ended).through_completions
    exact ⟨completed.cue, completed.route⟩
  · rw [← cueStage_eq] at going ⊢
    exact completionStage_cue going
  · rw [← cueStage_eq] at going ⊢
    exact completionStage_route going
  · have keeps := (quietLane_of idle early).cueStages
    exact ⟨keeps.route, keeps.slots⟩
  · exact cueStages_cue_of_rest ⟨unarmed, idle⟩
  · exact Vector.getElem_replicate _
  · refine (cueStages_raisesSpent s).raised.of_iff fun n => ?_
    simp only [BecomesSpent, CueSlot.Spent, not_exists]

end Sys2Proof.Machine
end

section
/-! SUPPORT. The laws of the lines, the delay pool and the closed house of CONFIG, kept by every operation of the part,
and so by every step. -/

namespace Sys2Proof.Machine

/-! ## A fader that is given a target (R71, R72, R76) -/

theorem Fader.give_towardOpen (toOpen : Bool) (f : Fader) : (f.give toOpen).TowardOpen ↔ toOpen = true := by
  cases toOpen with
  | false => exact iff_of_false f.giveShut_not_towardOpen Bool.false_ne_true
  | true => exact iff_of_true f.giveOpen_towardOpen rfl

theorem Fader.giveShut_of_shut {f : Fader} (shut : f.state = .shut) : f.giveShut = f := by
  simp only [Fader.giveShut, shut]

/-! ## The laws of one line -/

/-- A line's ranges and its buffer of d samples (R130, R131). -/
structure Line.Ranged (l : Line) : Prop where
  trim : l.trim ≤ 65535
  delay : l.delay ≤ maxDelay
  buffer : l.buffer.length = l.delay
  clips : l.clips ≤ max16

/-- A line fader's direction in an operating state, and its closing in CONFIG (R134, R137). -/
structure Line.Directed (op : OpState) (l : Line) : Prop where
  direction : l.fader.TowardOpen ↔ op.opens = true ∧ l.mute = false
  closed : op = .config → l.fader.state = .shut

section
variable {op : OpState} {l : Line}

/-- A target is that of the operating state and the mute flag, and a fader that is SHUT stays so in CONFIG (R134). -/
theorem Line.retarget_directed (closed : op = .config → l.fader.state = .shut) : (l.retarget op).Directed op := by
  refine ⟨?_, fun config => ?_⟩
  · rw [Line.retarget, Fader.give_towardOpen]
    simp only [Bool.and_eq_true, Bool.not_eq_true']
  · subst config
    exact (congrArg Fader.state (Fader.giveShut_of_shut (closed rfl))).trans (closed rfl)

theorem Line.Directed.setMute (h : l.Directed op) (mute : Bool) : (l.setMute op mute).Directed op :=
  Line.retarget_directed (l := { l with mute := mute }) h.closed

/-- A step keeps a fader's direction, and a fader that is SHUT stays so (R73). -/
theorem Line.Directed.step (h : l.Directed op) : Line.Directed op { l with fader := l.fader.step } := by
  refine ⟨(Fader.step_towardOpen _).trans h.direction, fun config => ?_⟩
  have shut := h.closed config
  exact (congrArg Fader.state (Fader.step_of_rest (.inr shut))).trans shut

/-- Line Setup (R133, R139). -/
theorem Line.Ranged.setup (h : l.Ranged) {trim delay : Nat} (htrim : trim ≤ 65535) (hdelay : delay ≤ maxDelay) :
    (l.setup trim delay).Ranged := by
  unfold Line.setup
  split
  · exact ⟨htrim, h.delay, h.buffer, h.clips⟩
  · exact ⟨htrim, hdelay, List.length_replicate, h.clips⟩

theorem Line.setup_delay (l : Line) (trim delay : Nat) : (l.setup trim delay).delay = delay := by
  unfold Line.setup
  split
  next same => exact same.symm
  next => rfl

theorem Line.Directed.setup (h : l.Directed op) (trim delay : Nat) : (l.setup trim delay).Directed op := by
  unfold Line.setup
  split <;> exact ⟨h.direction, h.closed⟩

theorem Line.Ranged.restart (h : l.Ranged) : l.restart.Ranged :=
  ⟨h.trim, h.delay, List.length_replicate, Nat.zero_le _⟩

theorem Line.restart_directed (l : Line) : l.restart.Directed .config :=
  ⟨iff_of_false (by simp [Line.restart, Fader.atReset]) (by simp [OpState.opens]), fun _ => rfl⟩

end

/-! ## The delay pool (R131) -/

theorem delayTotal_eq_sum (lines : Vector Line 64) : delayTotal lines = ∑ n : Fin 64, lines[n].delay :=
  (Fin.sum_univ_def fun n : Fin 64 => lines[n].delay).symm

theorem delayTotal_congr {lines lines' : Vector Line 64} (h : ∀ n : Fin 64, lines'[n].delay = lines[n].delay) :
    delayTotal lines' = delayTotal lines := by
  simp only [delayTotal, h]

theorem delayTotal_set (lines : Vector Line 64) (n : Fin 64) (l : Line) :
    delayTotal (lines.set n l) + lines[n].delay = delayTotal lines + l.delay := by
  have others : ∑ m ∈ Finset.univ.erase n, (lines.set n l)[m].delay = ∑ m ∈ Finset.univ.erase n, lines[m].delay :=
    Finset.sum_congr rfl fun m hm => by rw [getElem_set_of_ne _ (Finset.ne_of_mem_erase hm)]
  rw [delayTotal_eq_sum, delayTotal_eq_sum, ← Finset.add_sum_erase _ _ (Finset.mem_univ n),
    ← Finset.add_sum_erase _ _ (Finset.mem_univ n), others, getElem_set_self]
  omega

/-! ## The laws of the lines, line by line -/

/-- The laws of the lines, with those of each fader apart from those of the rest of the record. -/
structure LinesLawful (s : State) : Prop where
  ranged : ∀ n : Fin 64, s.lines[n].Ranged
  directed : ∀ n : Fin 64, s.lines[n].Directed s.op
  pool : delayTotal s.lines ≤ delayPool

theorem lineLaw_iff {s : State} : LineLaw s ↔ LinesLawful s := by
  constructor
  · rintro ⟨lines, pool, closed⟩
    refine ⟨fun n => ?_, fun n => ?_, pool⟩
    · obtain ⟨trim, delay, buffer, clips, -⟩ := lines n
      exact ⟨trim, delay, buffer, clips⟩
    · obtain ⟨-, -, -, -, direction⟩ := lines n
      exact ⟨direction, fun config => closed config n⟩
  · rintro ⟨ranged, directed, pool⟩
    refine ⟨fun n => ?_, pool, fun config n => (directed n).closed config⟩
    obtain ⟨trim, delay, buffer, clips⟩ := ranged n
    exact ⟨trim, delay, buffer, clips, (directed n).direction⟩

section
variable {s t : State}

theorem LinesLawful.of_same (hs : LinesLawful s) (lines : t.lines = s.lines) (op : t.op = s.op) : LinesLawful t := by
  constructor <;> simp only [lines, op]
  · exact hs.ranged
  · exact hs.directed
  · exact hs.pool

/-- Every line changes, and none its delay. -/
theorem LinesLawful.of_mapLines (hs : LinesLawful s) {f : Line → Line} (lines : t.lines = mapAll s.lines f)
    (ranged : ∀ l : Line, l.Ranged → (f l).Ranged) (directed : ∀ l : Line, l.Directed s.op → (f l).Directed t.op)
    (delay : ∀ l : Line, (f l).delay = l.delay) : LinesLawful t := by
  have line (n : Fin 64) : t.lines[n] = f s.lines[n] := by
    rw [lines, Fin.getElem_fin, getElem_mapAll]
    rfl
  refine ⟨fun n => line n ▸ ranged _ (hs.ranged n), fun n => line n ▸ directed _ (hs.directed n), ?_⟩
  rw [delayTotal_congr fun n => (congrArg Line.delay (line n)).trans (delay _)]
  exact hs.pool

/-- One line changes, and the pool has room for its delay (R131). -/
theorem LinesLawful.withLine (hs : LinesLawful s) {n : Fin 64} {l : Line} (ranged : l.Ranged)
    (directed : l.Directed s.op) (fits : delayTotal s.lines + l.delay ≤ delayPool + s.lines[n].delay) :
    LinesLawful (s.withLine n l) := by
  refine ⟨forall_set hs.ranged n ranged, forall_set hs.directed n directed, ?_⟩
  have total := delayTotal_set s.lines n l
  rw [State.withLine_lines]
  omega

/-- The operating state leaves CONFIG, or changes among the others (R143). -/
theorem LinesLawful.withOp (hs : LinesLawful s) {op : OpState} (hop : op ≠ .config) : LinesLawful (s.withOp op) := by
  refine hs.of_mapLines (State.withOp_lines s op) (fun l h => ⟨h.trim, h.delay, h.buffer, h.clips⟩) (fun l _ => ?_)
    fun _ => rfl
  rw [State.withOp_op]
  exact Line.retarget_directed fun config => absurd config hop

/-! ## The house sample -/

theorem runTest_op_of_stopping (h : s.op = .stopping) : (runTest s).op =
    if ∀ n : Fin 64, s.lines[n].fader.state = .shut then .config else .stopping := by
  have test : ((indices 64).all fun n => s.lines[n].fader.state == .shut) = true ↔
      ∀ n : Fin 64, s.lines[n].fader.state = .shut := by
    simp
  simp only [runTest, h, test]
  split
  · rfl
  · exact h

/-- Run control's test keeps the operating state, or takes STARTING to RUN, or takes STOPPING to CONFIG with every line
fader SHUT (R146, R147, R149). -/
theorem runTest_op_cases (s : State) : (runTest s).op = s.op ∨ (s.op = .starting ∧ (runTest s).op = .run) ∨
    (s.op = .stopping ∧ (runTest s).op = .config ∧ ∀ n : Fin 64, s.lines[n].fader.state = .shut) := by
  cases hop : s.op with
  | config => exact .inl (by simp only [runTest, hop])
  | run => exact .inl (by simp only [runTest, hop])
  | starting =>
    rw [runTest_op_of_starting hop]
    split
    · exact .inr (.inl ⟨rfl, rfl⟩)
    · exact .inl rfl
  | stopping =>
    rw [runTest_op_of_stopping hop]
    split
    next shut => exact .inr (.inr ⟨rfl, rfl, shut⟩)
    next => exact .inl rfl

/-- The same of a house sample, whose test reads the line faders after their steps (R146, R147). -/
theorem houseSample_op_cases (s : State) : (houseSample s).op = s.op ∨
    (s.op = .starting ∧ (houseSample s).op = .run) ∨
    (s.op = .stopping ∧ (houseSample s).op = .config ∧ ∀ n : Fin 64, s.lines[n].fader.step.state = .shut) := by
  obtain ⟨u, op, fader, tested⟩ : ∃ u : State, u.op = s.op ∧
      (∀ n : Fin 64, u.lines[n].fader = s.lines[n].fader.step) ∧ (houseSample s).op = (runTest u).op := by
    refine ⟨(lineStage (mixStage (laneOuts s) (beforeMix s)).2
      (completionStage (mixStage (laneOuts s) (beforeMix s)).1)).1, ?_, fun n => ?_, ?_⟩
    · simp [beforeMix]
    · simp [beforeMix]
    · simp only [houseSample, signalPath, egressStage_op, laneOuts, beforeMix]
  simp only [tested, ← op, ← fader]
  exact runTest_op_cases u

/-- Run control's test changes no line's target: RUN opens lines as STARTING does, and CONFIG as STOPPING (R143). -/
theorem houseSample_opens (s : State) : (houseSample s).op.opens = s.op.opens := by
  rcases houseSample_op_cases s with same | ⟨before, after⟩ | ⟨before, after, -⟩
  · rw [same]
  · rw [before, after]; rfl
  · rw [before, after]; rfl

/-- A house sample that leaves the part in CONFIG finds or brings every line fader to SHUT (R137, R147). -/
theorem LinesLawful.shut_of_config (hs : LinesLawful s) (config : (houseSample s).op = .config) (n : Fin 64) :
    s.lines[n].fader.step.state = .shut := by
  rcases houseSample_op_cases s with same | ⟨-, run⟩ | ⟨-, -, shut⟩
  · exact (hs.directed n).step.closed (same.symm.trans config)
  · cases config.symm.trans run
  · exact shut n

theorem LinesLawful.houseSample (hs : LinesLawful s) : LinesLawful (houseSample s) := by
  refine ⟨fun n => ?_, fun n => ⟨?_, fun config => ?_⟩, ?_⟩
  · obtain ⟨trim, delay, buffer, clips⟩ := hs.ranged n
    rw [houseSample_line]
    refine ⟨trim, delay, ?_, ?_⟩
    · rw [List.length_drop, List.length_append, List.length_singleton, Nat.add_sub_cancel]
      exact buffer
    · dsimp only
      split
      · exact clips
      · exact Nat.min_le_right _ _
  · rw [houseSample_opens, houseSample_line_mute, houseSample_line_fader]
    exact (hs.directed n).step.direction
  · rw [houseSample_line_fader]
    exact hs.shut_of_config config n
  · rw [delayTotal_congr (lines := s.lines) fun n => by rw [houseSample_line]]
    exact hs.pool

/-! ## The events -/

theorem arrivalAtShut_lines (f : FaderId) (s : State) : (arrivalAtShut f s).lines = s.lines := by
  cases f with
  | port k => simp only [arrivalAtShut]; split <;> simp
  | lane n => simp only [arrivalAtShut]; split <;> simp
  | line n => rfl

theorem arrivalAtShut_op (f : FaderId) (s : State) : (arrivalAtShut f s).op = s.op := by
  cases f with
  | port k => simp only [arrivalAtShut]; split <;> simp
  | lane n => simp only [arrivalAtShut]; split <;> simp
  | line n => rfl

theorem linesLawful_keptByPortChanges : KeptByPortChanges LinesLawful where
  withPorts ports s hs := hs.of_same (State.withPorts_lines s ports) (State.withPorts_op s ports)
  raise _ _ _ hs := hs.of_same rfl rfl

theorem linesLawful_keptByEvents : KeptByEvents LinesLawful where
  ownFields _ _ _ hs := hs.of_same rfl rfl
  withHcu _ _ _ hs := hs.of_same rfl rfl
  raise _ _ _ hs := hs.of_same rfl rfl
  restartNotice s hs := hs.of_same (restartNotice_lines s) (restartNotice_op s)
  houseSample _ hs := hs.houseSample
  loss k _ _ hs := linesLawful_keptByPortChanges.loss k hs
  withReceiver _ _ _ hs := hs.of_same rfl rfl
  portArrival k capture body _ hs := linesLawful_keptByPortChanges.portArrival k capture body hs
  windowComplete k _ hs := linesLawful_keptByPortChanges.windowComplete k hs
  seedingEntry k _ hs := linesLawful_keptByPortChanges.seedingEntry k hs
  arrivalAtShut f s hs := hs.of_same (arrivalAtShut_lines f s) (arrivalAtShut_op f s)
  activateLane n s hs := hs.of_same (activateLane_lines s n) (activateLane_op s n)
  completeCue i s hs := hs.of_same (completeCue_lines s i) (completeCue_op s i)
  pinReset _ _ := (lineLaw_iff.mp reset_lineLaw).of_same rfl rfl

/-! ## The requests -/

/-- A request that changes no line changes no operating state either. -/
theorem take_op {q : Request} (hq : changesLines q = false) (s : State) : (take q s).1.op = s.op := by
  cases q with
  | go | halt | countersClear | clockRate | clockSource | lineSetup | lineMute => cases hq
  | identify | status | restart | clockQuery | cueSurvey | conditionSurvey | unknown | malformed => rfl
  | _ =>
    simp only [take, takePortSetup, takePortAccept, takePortQuery, takePortRevive, takeLaneBind, takeLaneSelect,
      takeLaneMute, takeLaneQuery, takeRouteWrite, takeRouteQuery, takeCueLoad, takeCueAbort, takeCueAbortAll,
      takeCueQuery, takeLineQuery, takeConditionTake, takeConditionRelease, takeConditionMask, takeConditionClear]
    repeat' split
    all_goals simp

theorem takeGo_linesLawful (hs : LinesLawful s) : LinesLawful (takeGo s).1 := by
  unfold takeGo
  cases s.op with
  | config => exact hs.withOp nofun
  | _ => exact hs

theorem takeHalt_linesLawful (hs : LinesLawful s) : LinesLawful (takeHalt s).1 := by
  unfold takeHalt
  cases s.op with
  | starting => exact hs.withOp nofun
  | run => exact hs.withOp nofun
  | _ => exact hs

theorem takeCountersClear_linesLawful (hs : LinesLawful s) : LinesLawful (takeCountersClear s).1 :=
  hs.of_mapLines (f := fun l => { l with clips := 0 }) rfl
    (fun _ h => ⟨h.trim, h.delay, h.buffer, Nat.zero_le _⟩) (fun _ h => ⟨h.direction, h.closed⟩) fun _ => rfl

/-- A delay is set only where it is in range and the pool has room for it (R138). -/
theorem takeLineSetup_linesLawful (hs : LinesLawful s) (line : Byte) (trim delay : Word16) :
    LinesLawful (takeLineSetup line trim delay s).1 := by
  unfold takeLineSetup
  split
  · exact hs
  next n _ =>
    dsimp only
    split
    · exact hs
    split
    · exact hs
    next short =>
    split
    · exact hs
    next fits =>
    refine hs.withLine ((hs.ranged n).setup (Nat.le_of_lt_succ trim.isLt) (not_lt.mp short))
      ((hs.directed n).setup _ _) ?_
    rw [Line.setup_delay]
    exact not_lt.mp fits

theorem takeLineMute_linesLawful (hs : LinesLawful s) (line flag : Byte) :
    LinesLawful (takeLineMute line flag s).1 := by
  have ranged (mute : Bool) {l : Line} (h : l.Ranged) : (l.setMute s.op mute).Ranged :=
    ⟨h.trim, h.delay, h.buffer, h.clips⟩
  unfold takeLineMute
  split
  · exact hs
  next m _ =>
    split
    · exact hs.of_mapLines rfl (fun _ h => ranged m h) (fun _ h => h.setMute m) fun _ => rfl
    split
    next n _ => exact hs.withLine (ranged m (hs.ranged n)) ((hs.directed n).setMute m) (Nat.add_le_add_right hs.pool _)
    next => exact hs

theorem take_linesLawful (hs : LinesLawful s) (q : Request) : LinesLawful (take q s).1 := by
  cases q with
  | go => exact takeGo_linesLawful hs
  | halt => exact takeHalt_linesLawful hs
  | countersClear => exact takeCountersClear_linesLawful hs
  | clockRate code =>
    exact linesLawful_keptByEvents.takeClockRate (fun _ _ ht => ht.of_same rfl rfl)
      linesLawful_keptByPortChanges.withPorts code hs
  | clockSource code => exact linesLawful_keptByEvents.takeClockSource (fun _ _ ht => ht.of_same rfl rfl) code hs
  | lineSetup line trim delay => exact takeLineSetup_linesLawful hs line trim delay
  | lineMute line flag => exact takeLineMute_linesLawful hs line flag
  | _ => exact hs.of_same (take_lines rfl s) (take_op rfl s)

/-- After a Restart the part is in CONFIG with every line fader SHUT, and every delay is as it was (R142). -/
theorem executeRestart_linesLawful (hs : LinesLawful s) : LinesLawful (executeRestart s) :=
  hs.of_mapLines rfl (fun _ h => h.restart) (fun l _ => l.restart_directed) fun _ => rfl

theorem linesLawful_keptByRequests : KeptByRequests LinesLawful where
  take q _ hs := take_linesLawful hs q
  restart _ hs := executeRestart_linesLawful hs
  withLink _ _ hs := hs.of_same rfl rfl
  linkFault _ _ _ hs := hs.of_same rfl rfl

end

/-- Settles O57: every operation of the part keeps the laws of the lines, the delay pool and the closed house. -/
theorem stepKeepsLineLaw : Obligations.StepKeepsLineLaw := fun _ _ hs ht =>
  lineLaw_iff.mpr (linesLawful_keptByEvents.step linesLawful_keptByRequests (lineLaw_iff.mp hs) ht)

end Sys2Proof.Machine
end

section
/-! SUPPORT. The silence of CONFIG: a house sample that leaves the part in CONFIG leaves every line fader SHUT, and so
forms frames of zeros. -/

namespace Sys2Proof.Machine

section
variable {s : State}

/-- Where a house sample leaves the part in CONFIG, each final sample is scaled by level 0 (R74, R134, R137). -/
theorem finals_of_config (hl : LinesLawful s) (hf : FadersLawful s) (config : (houseSample s).op = .config)
    (n : Fin 64) : (finals s)[n] = 0 := by
  rw [finals_eq, houseSample_line_fader, (hf.line n).step.eq_of_shut (hl.shut_of_config config n), scale_zero]

/-- The frames that such a house sample forms (R135, R137). -/
theorem houseSample_egress_of_config (hl : LinesLawful s) (hf : FadersLawful s)
    (config : (houseSample s).op = .config) (k : Fin 8) :
    (houseSample s).egress[k] = audioFrame (egressTag s.link.address k) (Vector.replicate 8 0) := by
  rw [houseSample_egress, egressFrame, finals_slot (finals_of_config hl hf config)]
  rfl

end

/-- Settles O11: the laws hold at the house sample event too, after the timeouts that come before it. -/
theorem configIsSilent : Obligations.ConfigIsSilent := by
  intro s hl hf
  refine ⟨endSample s, rfl, fun config k => ?_⟩
  have lines : LinesLawful (timeoutsFirst s) := linesLawful_keptByEvents.lossesFirst _ (lineLaw_iff.mp hl)
  have faders : FadersLawful (timeoutsFirst s) := fadersLawful_keptByEvents.lossesFirst _ (faderLaw_iff.mp hf)
  rw [endSample, houseSample_egress_of_config lines faders config, timeoutsFirst_link, egressTag, byte]

end Sys2Proof.Machine
end

section
/-! SUPPORT. Line Setup, for a part that is ready to answer. -/

namespace Sys2Proof.Machine

/-! ## The checks and the effect (R138, R139) -/

section
variable {line : Byte} {trim delay : Word16} {s : State} {n : Fin 64}

theorem Line.setup_eq (l : Line) (trim delay : Nat) : l.setup trim delay =
    { l with trim := trim, delay := delay,
             buffer := if delay = l.delay then l.buffer else List.replicate delay 0 } := by
  unfold Line.setup
  split
  next same => rw [same]
  next => rfl

theorem takeLineSetup_of_range (h : 63 < line.toNat) : takeLineSetup line trim delay s = (s, .refuse .range) := by
  simp only [takeLineSetup, index_of_le h]

/-- A Line Setup for a line in range: the checks that are left, and the new record. -/
theorem takeLineSetup_of_line (hn : n.val = line.toNat) : takeLineSetup line trim delay s =
    if delay.toNat ≠ s.lines[n].delay ∧ s.op ≠ .config then (s, .refuse .locked)
    else if maxDelay < delay.toNat then (s, .refuse .range)
    else if delayPool + s.lines[n].delay < delayTotal s.lines + delay.toNat then (s, .refuse .nospace)
    else (s.withLine n (s.lines[n].setup trim.toNat delay.toNat), .done) := by
  simp only [takeLineSetup, index_of_eq hn]

/-- A delay that is the present one, or a smaller one in CONFIG, passes every check (R138). -/
theorem takeLineSetup_of_kept (hn : n.val = line.toNat) (hs : LineLaw s)
    (kept : delay.toNat = s.lines[n].delay ∨ delay.toNat < s.lines[n].delay ∧ s.op = .config) :
    takeLineSetup line trim delay s = (s.withLine n (s.lines[n].setup trim.toNat delay.toNat), .done) := by
  have unlocked : ¬(delay.toNat ≠ s.lines[n].delay ∧ s.op ≠ .config) := by
    rintro ⟨changes, locked⟩
    rcases kept with same | ⟨-, config⟩
    · exact changes same
    · exact locked config
  have short : delay.toNat ≤ s.lines[n].delay := by
    rcases kept with same | ⟨smaller, -⟩
    · exact same.le
    · exact smaller.le
  obtain ⟨ranged, -, pool⟩ := lineLaw_iff.mp hs
  have longest := (ranged n).delay
  rw [takeLineSetup_of_line hn, if_neg unlocked, if_neg (by omega), if_neg (by omega)]

end

/-- Settles O38: R138's checks in order, then the record as it is set; and the delays that pass every check. -/
theorem lineSetup : Obligations.LineSetup := by
  intro dest line trim delay s h total set
  have answers {t : State} {r : Reply} (ht : takeLineSetup line trim delay s = (t, r)) :
      exec (.lineSetup dest line trim delay) s = .next (t.replying 0x60 r.status r.content) :=
    exec_answers (.lineSetup line trim delay) h rfl (by simp) ht
  have sets {n : Fin 64} (ht : takeLineSetup line trim delay s =
      (s.withLine n (s.lines[n].setup trim.toNat delay.toNat), .done)) :
      exec (.lineSetup dest line trim delay) s = set n := by
    rw [Line.setup_eq] at ht
    exact (answers ht :)
  refine ⟨?_, fun n hn law kept => sets (takeLineSetup_of_kept hn law kept)⟩
  simp only [firstRefusal_cons, firstRefusal_nil, decide_eq_true_eq]
  by_cases range : 63 < line.toNat
  · rw [if_pos range]
    exact (answers (takeLineSetup_of_range range) :)
  rw [if_neg range]
  obtain ⟨n, hn⟩ : ∃ n : Fin 64, n.val = line.toNat := ⟨⟨line.toNat, by omega⟩, rfl⟩
  have named (m : Fin 64) : m.val = line.toNat ↔ m = n := by rw [← hn, Fin.ext_iff]
  have taken : takeLineSetup line trim delay s =
      if delay.toNat ≠ s.lines[n].delay ∧ s.op ≠ .config then (s, .refuse .locked)
      else if 8191 < delay.toNat then (s, .refuse .range)
      else if 65536 + s.lines[n].delay < total + delay.toNat then (s, .refuse .nospace)
      else (s.withLine n (s.lines[n].setup trim.toNat delay.toNat), .done) := takeLineSetup_of_line hn
  simp only [named, exists_eq_left]
  by_cases locked : delay.toNat ≠ s.lines[n].delay ∧ s.op ≠ .config
  · rw [if_pos locked] at taken ⊢
    exact (answers taken :)
  rw [if_neg locked] at taken ⊢
  by_cases long : 8191 < delay.toNat
  · rw [if_pos long] at taken ⊢
    exact (answers taken :)
  rw [if_neg long] at taken ⊢
  by_cases full : 65536 + s.lines[n].delay < total + delay.toNat
  · rw [if_pos full] at taken ⊢
    exact (answers taken :)
  rw [if_neg full] at taken ⊢
  rintro m rfl
  exact sets taken

end Sys2Proof.Machine
end

section
/-! SUPPORT. Run control at a house sample: what its test does in each operating state, and that nothing before it in the
house sample touches what it reads, save the line faders' steps. -/

namespace Sys2Proof.Machine

/-! ## The test (R146, R147, R149) -/

section
variable {s : State}

theorem runTest_of_idle (h : s.op = .config ∨ s.op = .run) : runTest s = s := by
  rcases h with h | h
  · simp only [runTest, h]
  · simp only [runTest, h]

theorem runTest_of_starting (h : s.op = .starting) : runTest s =
    if ∀ n : Fin 64, s.lines[n].mute = false → s.lines[n].fader.state = .opened then
      { s with op := .run }.raise .stateReached 1#64
    else s := by
  have test : ((indices 64).all fun n => s.lines[n].mute || s.lines[n].fader.state == .opened) = true ↔
      ∀ n : Fin 64, s.lines[n].mute = false → s.lines[n].fader.state = .opened := by
    simp [← Bool.not_eq_true, imp_iff_not_or]
  simp only [runTest, h, test]
  rfl

theorem runTest_of_stopping (h : s.op = .stopping) : runTest s =
    if ∀ n : Fin 64, s.lines[n].fader.state = .shut then { s with op := .config }.raise .stateReached 2#64
    else s := by
  have test : ((indices 64).all fun n => s.lines[n].fader.state == .shut) = true ↔
      ∀ n : Fin 64, s.lines[n].fader.state = .shut := by
    simp
  simp only [runTest, h, test]
  rfl

/-- State Reached after its raise, from an operating state just set (R154). -/
theorem raise_stateReached (op : OpState) (items : BitVec 64) (s : State) :
    ({ s with op := op }.raise .stateReached items).conditions[Cond.stateReached.index] =
      { s.conditions[Cond.stateReached.index] with
        latched := true, detail := s.conditions[Cond.stateReached.index].detail ||| items } := by
  rw [raise_conditions, if_pos rfl]

end

/-! ## What the test finds at a house sample -/

section
variable {i : Fin 12}

theorem withPorts_keepsCondition (hi : i ≠ Cond.failover.index) (ports : Vector Port 6) (s : State) :
    KeepsCondition i s (s.withPorts ports) := by
  simp only [State.withPorts]
  split
  · exact evaluateLanes_keepsCondition hi
  · exact .refl i s

/-- The frame timeouts taken before a house sample event raise Port Lost and Failover alone (R26, R88). -/
theorem timeoutsFirst_keepsCondition (hlost : i ≠ Cond.portLost.index) (hfail : i ≠ Cond.failover.index)
    (s : State) : KeepsCondition i s (timeoutsFirst s) := by
  have losses (fuel : Nat) : ∀ t, KeepsCondition i s t → KeepsCondition i s (lossesFirst fuel t) := by
    induction fuel with
    | zero => exact fun _ ht => ht
    | succ fuel ih =>
      intro t ht
      rcases lossesFirst_succ fuel t with ⟨-, h⟩ | ⟨-, h⟩ | ⟨k, -, h⟩
      · rwa [h]
      · rw [h]
        exact ht
      · rw [h]
        exact ih _ (ht.trans ((withPorts_keepsCondition hfail _ { t with draws := t.draws + 1 }).raise hlost _))
  exact losses _ s (.refl i s)

/-- The part as run control's test finds it at a house sample: after the timeouts and after the line faders' steps.
The test changes no line, and only the egress frames and the clock come after it (R135, R146). -/
def atRunTest (s : State) : State :=
  let u := timeoutsFirst s
  (lineStage (mixStage (laneOuts u) (beforeMix u)).2 (completionStage (mixStage (laneOuts u) (beforeMix u)).1)).1

theorem endSample_lines (s : State) : (endSample s).lines = (atRunTest s).lines := by
  simp only [endSample, houseSample, signalPath, egressStage_lines, runTest_lines, atRunTest, laneOuts, beforeMix]

theorem endSample_op (s : State) : (endSample s).op = (runTest (atRunTest s)).op := by
  simp only [endSample, houseSample, signalPath, egressStage_op, atRunTest, laneOuts, beforeMix]

theorem endSample_conditions (s : State) : (endSample s).conditions = (runTest (atRunTest s)).conditions := by
  simp only [endSample, houseSample, signalPath, egressStage_conditions, atRunTest, laneOuts, beforeMix]

theorem atRunTest_op (s : State) : (atRunTest s).op = s.op := by simp [atRunTest, beforeMix]

/-- Nothing before the test raises State Reached. -/
theorem atRunTest_keepsStateReached (s : State) : KeepsCondition Cond.stateReached.index s (atRunTest s) := by
  have found := timeoutsFirst_keepsCondition (i := Cond.stateReached.index) (by decide) (by decide) s
  have mixed := found.trans (beforeMix_keepsCondition (by decide) (by decide) _)
  have lines (mix : Vector Sample 64) (t : State) : KeepsCondition Cond.stateReached.index t (lineStage mix t).1 := by
    rw [KeepsCondition, lineStage_conditions]
  exact ((mixed.trans (mixStage_keepsCondition (by decide) _ _)).trans
    (completionStage_keepsCondition (by decide) _)).trans (lines _ _)

end

/-- Settles O10: the test leaves the part as it finds it, or moves it to RUN or to CONFIG with the raise. -/
theorem houseSampleRunControl : Obligations.HouseSampleRunControl := by
  intro s
  refine ⟨endSample s, rfl, ?_⟩
  intro opened shut before after
  have reached : after = (runTest (atRunTest s)).conditions[Cond.stateReached.index] := by
    simp only [after, endSample_conditions]
  have kept : (atRunTest s).conditions[Cond.stateReached.index] = before := atRunTest_keepsStateReached s
  have idle (h : runTest (atRunTest s) = atRunTest s) : (endSample s).op = (atRunTest s).op ∧ after = before := by
    rw [endSample_op, reached, h]
    exact ⟨rfl, kept⟩
  have moves {target : OpState} {items : BitVec 64}
      (h : runTest (atRunTest s) = { atRunTest s with op := target }.raise .stateReached items) :
      (endSample s).op = target ∧ after = { before with latched := true, detail := before.detail ||| items } := by
    rw [endSample_op, reached, h, raise_stateReached, kept]
    exact ⟨rfl, rfl⟩
  have opened_iff : (∀ n : Fin 64, (atRunTest s).lines[n].mute = false →
      (atRunTest s).lines[n].fader.state = .opened) ↔ opened := by
    simp only [← endSample_lines, endSample_line_mute, opened]
  have shut_iff : (∀ n : Fin 64, (atRunTest s).lines[n].fader.state = .shut) ↔ shut := by
    simp only [← endSample_lines, shut]
  rw [← opened_iff, ← shut_iff, ← atRunTest_op s]
  refine ⟨fun h => ?_, fun h => ?_, fun h yes => ?_, fun h no => ?_, fun h yes => ?_, fun h no => ?_⟩
  · exact h ▸ idle (runTest_of_idle (.inl h))
  · exact h ▸ idle (runTest_of_idle (.inr h))
  · exact moves ((runTest_of_starting h).trans (if_pos yes))
  · exact h ▸ idle ((runTest_of_starting h).trans (if_neg no))
  · exact moves ((runTest_of_stopping h).trans (if_pos yes))
  · exact h ▸ idle ((runTest_of_stopping h).trans (if_neg no))

end Sys2Proof.Machine
end

section
/-! SUPPORT. Go, Halt and Line Mute, the requests that give line faders their targets, each for a part that is ready to
answer. -/

namespace Sys2Proof.Machine

/-! ## The targets of the line faders (R134, R143) -/

theorem OpState.opens_iff {op : OpState} : op.opens = true ↔ op = .starting ∨ op = .run := by cases op <;> decide

/-- A line that takes a mute flag gets its target by the flag and the operating state (R134, R140). -/
theorem Line.setMute_eq (op : OpState) (mute : Bool) (l : Line) : l.setMute op mute = { l with
    mute := mute,
    fader := if (op = .starting ∨ op = .run) ∧ mute = false then l.fader.giveOpen else l.fader.giveShut } := by
  simp only [Line.setMute, Line.retarget, Fader.give, Bool.and_eq_true, Bool.not_eq_true', OpState.opens_iff]

/-- At a Go each unmuted line fader is given the target OPEN, and each muted one SHUT (R143, R144). -/
theorem State.withOp_starting (s : State) : s.withOp .starting = { s with
    op := .starting,
    lines := Vector.ofFn fun n => { s.lines[n] with
      fader := if s.lines[n].mute then s.lines[n].fader.giveShut else s.lines[n].fader.giveOpen } } := by
  have retargeted (l : Line) : l.retarget .starting =
      { l with fader := if l.mute then l.fader.giveShut else l.fader.giveOpen } := by
    cases hm : l.mute <;> simp only [Line.retarget, hm] <;> rfl
  simp only [State.withOp, mapAll, retargeted]

/-- A Halt closes the house from STARTING and RUN, and is done already in the other states (R145). -/
theorem takeHalt_eq (s : State) : takeHalt s = (if s.op = .starting ∨ s.op = .run then
    { s with
      op := .stopping,
      lines := Vector.ofFn fun n => { s.lines[n] with fader := s.lines[n].fader.giveShut } }
    else s, .done) := by
  unfold takeHalt
  cases s.op with
  | config => rfl
  | starting => rfl
  | run => rfl
  | stopping => rfl

/-! ## Line Mute (R140, R148) -/

section
variable {line flag : Byte} {s : State}

theorem takeLineMute_of_range (h : 1 < flag.toNat ∨ 63 < line.toNat ∧ line ≠ 255) :
    takeLineMute line flag s = (s, .refuse .range) := by
  rw [takeLineMute, flagOf_eq]
  by_cases flagged : 1 < flag.toNat
  · rw [if_pos flagged]
  · obtain ⟨outside, named⟩ := h.resolve_left flagged
    simp only [if_neg flagged, if_neg named, index_of_le outside]

theorem takeLineMute_all {m : Bool} (hm : flagOf flag = some m) : takeLineMute 255 flag s =
    ({ s with lines := mapAll s.lines (Line.setMute s.op m) }, .done) := by
  simp only [takeLineMute, hm, if_true]

theorem takeLineMute_one {m : Bool} {n : Fin 64} (hn : n.val = line.toNat) (hm : flagOf flag = some m) :
    takeLineMute line flag s = (s.withLine n (s.lines[n].setMute s.op m), .done) := by
  have named : line ≠ 255 := by bv_omega
  simp only [takeLineMute, hm, if_neg named, index_of_eq hn]

end

/-- Settles O39: Go and Halt by the operating state; Line Mute by its range, then for all lines and for one. -/
theorem goHaltAndLineMute : Obligations.GoHaltAndLineMute := by
  refine ⟨fun dest s h => ?_, fun dest line flag s h => ?_⟩
  · refine ⟨?_, (exec_answers (c := .halt dest) .halt h rfl (by simp) (takeHalt_eq s) :)⟩
    have answers {t : State} {r : Reply} (ht : takeGo s = (t, r)) :
        exec (.go dest) s = .next (t.replying 0x03 r.status r.content) := exec_answers .go h rfl (by simp) ht
    rw [← State.withOp_starting]
    cases hop : s.op with
    | config => exact (answers (by simp only [takeGo, hop] : _ = (s.withOp .starting, .done)) :)
    | starting => exact (answers (by simp only [takeGo, hop] : _ = (s, .done)) :)
    | run => exact (answers (by simp only [takeGo, hop] : _ = (s, .done)) :)
    | stopping => exact (answers (by simp only [takeGo, hop] : _ = (s, .refuse .busy)) :)
  · intro muted
    have answers {t : State} {r : Reply} (ht : takeLineMute line flag s = (t, r)) :
        exec (.lineMute dest line flag) s = .next (t.replying 0x61 r.status r.content) :=
      exec_answers (.lineMute line flag) h rfl (by simp) ht
    have stored (range : flag.toNat ≤ 1) : flagOf flag = some (flag == 1) := by rw [flagOf_eq, if_neg (by omega)]
    have muted_eq (range : flag.toNat ≤ 1) (l : Line) : l.setMute s.op (flag == 1) = muted l := by
      have clear : (flag == 1) = false ↔ flag = 0 := by
        rw [beq_eq_false_iff_ne]
        bv_omega
      simp only [Line.setMute_eq, clear, muted]
    refine ⟨fun range => (answers (takeLineMute_of_range range) :), ?_, fun n range hn => ?_⟩
    · rintro range rfl
      have taken := takeLineMute_all (s := s) (stored range)
      simp only [mapAll, muted_eq range] at taken
      exact (answers taken :)
    · have taken := takeLineMute_one (s := s) hn (stored range)
      rw [muted_eq range] at taken
      exact (answers taken :)

end Sys2Proof.Machine
end

section
/-! SUPPORT. The commands, operation by operation: a property that the operations of the events and those of the link
keep, whatever each does inside, is kept by every command and by every step. -/

namespace Sys2Proof.Machine

/-- The properties that the operations of the events keep, each taken as a whole. -/
structure KeptByEventRows (P : State → Prop) : Prop where
  ownFields : ∀ (draws : Nat) (pending : List Instr) (s : State), P s →
    P { s with draws := draws, pending := pending }
  tick : ∀ (now : Nat) (s : State), P s → P (s.withHcu { s.hcu with now := now })
  pinReset : ∀ s : State, P s → P (pinReset s)
  endSample : ∀ s : State, P s → P (endSample s)
  referenceEdge : ∀ (src : ClockSource) (s : State), P s → P (referenceEdge src s)
  watchSilence : ∀ (src : ClockSource) (s : State), P s → P (watchSilence src s)
  qualificationComplete : ∀ s : State, P s → P (qualificationComplete s)
  ingressByte : ∀ (k : Fin 6) (b : Byte) (s : State), P s → P (ingressByte k b s)
  frameTimeout : ∀ (k : Fin 6) (s : State), P s → P (frameTimeout k s)
  windowComplete : ∀ (k : Fin 6) (s : State), P s → P (windowComplete k s)
  seedingEntry : ∀ (k : Fin 6) (s : State), P s → P (seedingEntry k s)
  arrivalAtShut : ∀ (f : FaderId) (s : State), P s → P (arrivalAtShut f s)
  activateLane : ∀ (n : Fin 48) (s : State), P s → P (activateLane n s)
  completeCue : ∀ (i : Fin 32) (s : State), P s → P (completeCue i s)

/-- The properties that the operations of the link keep, each taken as a whole: what it does to its own record in
between is not seen. -/
structure KeptByLinkRows (P : State → Prop) : Prop where
  request : ∀ (dest : Address) (q : Request) (s : State), P s → P (request dest q s)
  endFrame : ∀ s : State, P s → P (endFrame s)
  framingError : ∀ s : State, P s → P (linkFramingError s)
  linkByte : ∀ (b : Byte) (stopBit : Bool) (s : State), P s → P (linkByte b stopBit s)
  replyEnd : ∀ s : State, P s → P (replyEnd s)
  restart : ∀ s : State, P s → P (executeRestart s)

section
variable {P : State → Prop} {s t : State}

theorem KeptByEvents.rows (kept : KeptByEvents P) : KeptByEventRows P where
  ownFields := kept.ownFields
  tick _ _ hs := kept.withHcu _ _ rfl hs
  pinReset := kept.pinReset
  endSample _ hs := kept.endSample hs
  referenceEdge src _ hs := kept.referenceEdge src hs
  watchSilence src _ hs := kept.watchSilence src hs
  qualificationComplete _ hs := kept.qualificationComplete hs
  ingressByte k b _ hs := kept.ingressByte k b hs
  frameTimeout k _ hs := kept.frameTimeout k hs
  windowComplete := kept.windowComplete
  seedingEntry := kept.seedingEntry
  arrivalAtShut := kept.arrivalAtShut
  activateLane := kept.activateLane
  completeCue := kept.completeCue

theorem KeptByRequests.rows (kept : KeptByRequests P) : KeptByLinkRows P where
  request dest q _ hs := kept.request dest q hs
  endFrame _ hs := kept.endFrame hs
  framingError _ hs := kept.linkFault _ _ _ hs
  linkByte b stopBit _ hs := kept.linkByte b stopBit hs
  replyEnd _ hs := kept.replyEnd hs
  restart := kept.restart

/-- A command that is no request is one operation of the events or of the link, or none where its cause is missing. -/
theorem KeptByEventRows.exec (events : KeptByEventRows P) (link : KeptByLinkRows P) (c : Instr) (hs : P s) :
    ∃ t, exec c s = .next t ∧ P t := by
  cases hq : requested? c with
  | some q => exact ⟨_, exec_requested hq s, link.request _ _ s hs⟩
  | none =>
    cases c with
    | pinReset => exact ⟨_, rfl, events.pinReset s hs⟩
    | houseSample => exact ⟨_, rfl, events.endSample s hs⟩
    | wordclockEdge => exact ⟨_, rfl, events.referenceEdge .wordclock s hs⟩
    | watchSilence src => exact ⟨_, rfl, events.watchSilence src s hs⟩
    | qualificationComplete => exact ⟨_, rfl, events.qualificationComplete s hs⟩
    | frameArrival k bytes => exact ⟨_, rfl, foldl_kept (P := P) (fun t b => events.ingressByte k b t) bytes hs⟩
    | syncWord k => exact ⟨_, rfl, events.ingressByte k _ _ (events.ingressByte k _ s hs)⟩
    | frameTimeout k => exact ⟨_, rfl, events.frameTimeout k s hs⟩
    | windowComplete k => exact ⟨_, rfl, events.windowComplete k s hs⟩
    | seedingEntry k => exact ⟨_, rfl, events.seedingEntry k s hs⟩
    | arrivalAtShut f => exact ⟨_, rfl, events.arrivalAtShut f s hs⟩
    | arrivalAtOpen => exact ⟨_, rfl, hs⟩
    | cueActivation n => exact ⟨_, rfl, events.activateLane n s hs⟩
    | cueCompletion i => exact ⟨_, rfl, events.completeCue i s hs⟩
    | controlFrameEnd => exact ⟨_, rfl, by split <;> [exact link.endFrame s hs; exact hs]⟩
    | framingError => exact ⟨_, rfl, by split <;> [exact hs; exact link.framingError s hs]⟩
    | abort => exact ⟨_, rfl, link.linkByte _ _ _ (link.linkByte _ _ s hs)⟩
    | requestPairByte b stopBit => exact ⟨_, rfl, link.linkByte b stopBit s hs⟩
    | replyEnd => exact ⟨_, rfl, link.replyEnd s hs⟩
    | restartExecute =>
      refine ⟨_, rfl, ?_⟩
      split
      · split
        · exact link.restart s hs
        · exact hs
      · exact hs
    | _ => cases hq

theorem KeptByEventRows.passTime (events : KeptByEventRows P) (hs : P s) : P (passTime s) := by
  unfold Machine.passTime
  split
  · exact events.tick _ s hs
  · exact events.ownFields s.draws _ s hs
  · exact events.ownFields _ _ s hs

theorem KeptByEventRows.step (events : KeptByEventRows P) (link : KeptByLinkRows P) (hs : P s)
    (ht : step s = .next t) : P t := by
  unfold Machine.step at ht
  split at ht
  next => exact Host.Outcome.next.inj ht ▸ events.passTime hs
  next c rest _ =>
    obtain ⟨u, hu, keeps⟩ := events.exec link c (events.ownFields s.draws rest s hs)
    exact Host.Outcome.next.inj (hu.symm.trans ht) ▸ keeps

end

end Sys2Proof.Machine
end

section
/-! SUPPORT. The laws of the link interface: while the waiting requests are being taken all but one of them holds, and
when the taking ends they all do. -/

namespace Sys2Proof.Machine

/-! ## The laws by name, and what they come to while requests are being taken -/

/-- The laws of the link that do not say when a request may wait (R163, R166, R168, R171). At the broadcast address
only broadcasts are taken, and none of them starts a reply. -/
structure Link.RecordLaw (l : Link) : Prop where
  buffer : l.buffer.length ≤ 245
  emptied : l.rx = .idle → l.buffer = []
  capacity : l.queue.length ≤ queueCapacity
  counters : l.badChecks ≤ max16 ∧ l.framings ≤ max16 ∧ l.overflows ≤ max16
  silent : l.address = broadcastAddress → l.tx = none ∧ ∀ q ∈ l.queue, q.broadcast = true

/-- With the transmitter idle no request is left waiting (R169). -/
theorem Link.law_iff {l : Link} : l.Law ↔ l.RecordLaw ∧ (l.tx = none → l.queue = []) := by
  constructor
  · rintro ⟨buffer, emptied, capacity, taken, counters, silent⟩
    refine ⟨⟨buffer, emptied, capacity, counters, fun own => ⟨silent own, ?_⟩⟩, taken⟩
    rw [taken (silent own)]
    nofun
  · rintro ⟨h, taken⟩
    exact ⟨h.buffer, h.emptied, h.capacity, taken, h.counters, fun own => (h.silent own).1⟩

section
variable {s t : State} {l : Link}

theorem Link.Law.record (h : l.Law) : l.RecordLaw := (Link.law_iff.mp h).1

theorem Link.Law.taken (h : l.Law) : l.tx = none → l.queue = [] := (Link.law_iff.mp h).2

/-- After a Restart the link is idle and empty (R175). -/
theorem Link.restart_law (l : Link) : l.restart.Law :=
  ⟨Nat.zero_le _, fun _ => rfl, Nat.zero_le _, fun _ => rfl, ⟨Nat.zero_le _, Nat.zero_le _, Nat.zero_le _⟩,
    fun _ => rfl⟩

theorem Link.RecordLaw.clearCounters (h : l.RecordLaw) :
    Link.RecordLaw { l with badChecks := 0, framings := 0, overflows := 0 } :=
  ⟨h.buffer, h.emptied, h.capacity, ⟨Nat.zero_le _, Nat.zero_le _, Nat.zero_le _⟩, h.silent⟩

/-- The receiver's buffer and state change, with all else of the link as it was. -/
theorem Link.Law.withBuffer (h : l.Law) {rx : LinkRx} {buffer : List Byte} (short : buffer.length ≤ 245)
    (emptied : rx = .idle → buffer = []) : Link.Law { l with rx := rx, buffer := buffer } := by
  obtain ⟨-, -, rest⟩ := h
  exact ⟨short, emptied, rest⟩

/-! ## The requests (R168, R169, R174) -/

/-- Only Counters Clear changes the link's record. -/
theorem take_link {q : Request} (hq : q ≠ .countersClear) (s : State) : (take q s).1.link = s.link := by
  cases q with
  | countersClear => exact absurd rfl hq
  | identify | status | restart | clockQuery | cueSurvey | conditionSurvey | unknown | malformed => rfl
  | _ =>
    simp only [take, takeGo, takeHalt, takeClockRate, takeClockSource, takePortSetup, takePortAccept, takePortQuery,
      takePortRevive, takeLaneBind, takeLaneSelect, takeLaneMute, takeLaneQuery, takeRouteWrite, takeRouteQuery,
      takeCueLoad, takeCueAbort, takeCueAbortAll, takeCueQuery, takeLineSetup, takeLineMute, takeLineQuery,
      takeConditionTake, takeConditionRelease, takeConditionMask, takeConditionClear]
    repeat' split
    all_goals simp

theorem take_recordLaw (hs : s.link.RecordLaw) (q : Request) : (take q s).1.link.RecordLaw := by
  by_cases hq : q = .countersClear
  · rw [hq]
    exact hs.clearCounters
  · rwa [take_link hq]

theorem take_queue_address (q : Request) (s : State) :
    (take q s).1.link.queue = s.link.queue ∧ (take q s).1.link.address = s.link.address := by
  by_cases hq : q = .countersClear
  · rw [hq]
    exact ⟨rfl, rfl⟩
  · rw [take_link hq]
    exact ⟨rfl, rfl⟩

/-- A request that has left the queue is taken: the queue behind it does not grow, and a reply starts only at an
address that has replies (R152, R163, R169). -/
theorem serve_recordLaw (hs : s.link.RecordLaw) {q : QueuedRequest}
    (addressed : s.link.address = broadcastAddress → q.broadcast = true) :
    (serve q s).link.RecordLaw ∧ (serve q s).link.queue.length ≤ s.link.queue.length := by
  have taken := take_recordLaw hs q.request
  obtain ⟨queue, address⟩ := take_queue_address q.request s
  simp only [serve]
  split
  · split
    · exact ⟨(Link.restart_law _).record, Nat.zero_le _⟩
    · exact ⟨taken, queue.symm ▸ le_rfl⟩
  next answered =>
    refine ⟨⟨taken.buffer, taken.emptied, taken.capacity, taken.counters, fun own => ?_⟩, queue.symm ▸ le_rfl⟩
    exact absurd (addressed (address ▸ own)) answered

/-- The taking goes on until a reply is being sent or nothing waits (R169). -/
theorem takeWaiting_law {fuel : Nat} (hs : s.link.RecordLaw) (enough : s.link.queue.length ≤ fuel) :
    (takeWaiting fuel s).link.Law := by
  induction fuel generalizing s with
  | zero => exact Link.law_iff.mpr ⟨hs, fun _ => List.length_eq_zero_iff.mp (Nat.le_zero.mp enough)⟩
  | succ fuel ih =>
    unfold takeWaiting
    split
    next q rest idle waiting =>
      obtain ⟨buffer, emptied, capacity, counters, silent⟩ := hs
      rw [waiting] at enough capacity silent
      have behind : Link.RecordLaw { s.link with queue := rest } :=
        ⟨buffer, emptied, Nat.le_of_succ_le capacity, counters,
          fun own => ⟨idle, fun r hr => (silent own).2 r (List.mem_cons_of_mem _ hr)⟩⟩
      obtain ⟨served, shorter⟩ := serve_recordLaw (s := s.withLink { s.link with queue := rest }) (q := q) behind
        fun own => (silent own).2 q List.mem_cons_self
      exact ih served (shorter.trans (Nat.le_of_succ_le_succ enough))
    next going =>
      refine Link.law_iff.mpr ⟨hs, fun idle => ?_⟩
      cases waiting : s.link.queue with
      | nil => rfl
      | cons q rest => exact (going q rest idle waiting).elim

theorem takeReady_law (hs : s.link.RecordLaw) : s.takeReady.link.Law := takeWaiting_law hs le_rfl

/-- An addressed request is not offered at the broadcast address (R163, R168). -/
theorem offer_law (hs : s.link.Law) {q : QueuedRequest}
    (addressed : s.link.address = broadcastAddress → q.broadcast = true) : (offer q s).link.Law := by
  unfold offer
  split
  next room =>
    refine takeReady_law ⟨hs.record.buffer, hs.record.emptied, ?_, hs.record.counters, fun own => ?_⟩
    · rw [State.withLink_link, List.length_append]
      exact room
    · have idle := (hs.record.silent own).1
      refine ⟨idle, fun r hr => ?_⟩
      rw [State.withLink_link, hs.taken idle, List.nil_append, List.mem_singleton] at hr
      exact hr ▸ addressed own
  next =>
    obtain ⟨buffer, emptied, capacity, taken, ⟨badChecks, framings, -⟩, silent⟩ := hs
    exact ⟨buffer, emptied, capacity, taken, ⟨badChecks, framings, countUp_le _ _ _⟩, silent⟩

theorem request_law (hs : s.link.Law) (dest : Address) (q : Request) : (request dest q s).link.Law := by
  unfold request
  split
  · exact offer_law hs fun _ => rfl
  next named =>
  split
  next own => exact offer_law hs fun broadcasts => absurd (own.trans broadcasts) named
  next => exact hs

/-! ## The receiver and the transmitter (R164 to R166, R169) -/

theorem linkFramingError_law (hs : s.link.Law) : (linkFramingError s).link.Law := by
  obtain ⟨-, -, capacity, taken, ⟨badChecks, -, overflows⟩, silent⟩ := hs
  exact ⟨Nat.zero_le _, fun _ => rfl, capacity, taken, ⟨badChecks, countUp_le _ _ _, overflows⟩, silent⟩

theorem openFrame_law (hs : s.link.Law) : (openFrame s).link.Law := hs.withBuffer (Nat.zero_le _) fun _ => rfl

theorem judge_law (hs : s.link.Law) (bytes : List Byte) : (judge bytes s).link.Law := by
  simp only [judge]
  split
  · exact hs
  split
  · obtain ⟨buffer, emptied, capacity, taken, ⟨-, framings, overflows⟩, silent⟩ := hs
    exact ⟨buffer, emptied, capacity, taken, ⟨countUp_le _ _ _, framings, overflows⟩, silent⟩
  split
  · split
    · exact hs
    · exact request_law hs _ _
  · exact hs

theorem endFrame_law (hs : s.link.Law) : (endFrame s).link.Law := judge_law (openFrame_law hs) _

/-- The 246th byte is a framing error, so no more than 245 stand in the buffer (R164, R166). -/
theorem appendByte_law (hs : s.link.Law) (b : Byte) : (appendByte b s).link.Law := by
  unfold appendByte
  split
  · exact linkFramingError_law hs
  next room =>
    refine hs.withBuffer ?_ nofun
    rw [List.length_append]
    exact not_le.mp room

theorem linkByte_law (hs : s.link.Law) (b : Byte) (stopBit : Bool) : (linkByte b stopBit s).link.Law := by
  have fault := linkFramingError_law hs
  have opened := openFrame_law hs
  have appended := appendByte_law hs
  unfold linkByte
  cases s.link.rx with
  | idle => dsimp only; split <;> assumption
  | collecting =>
    dsimp only
    split
    · exact fault
    split
    · exact endFrame_law hs
    split
    · exact hs.withBuffer hs.record.buffer nofun
    · exact appended b
  | escaped =>
    dsimp only
    split
    · exact fault
    split
    · exact appended _
    split
    · exact appended _
    split <;> assumption

/-- With its reply sent the transmitter is idle, and what waits is taken (R169). -/
theorem replyEnd_law (hs : s.link.Law) : (replyEnd s).link.Law := by
  unfold replyEnd
  split
  · exact hs
  next t sending =>
    dsimp only
    split
    · exact Link.restart_law _
    · refine takeReady_law ⟨hs.record.buffer, hs.record.emptied, hs.record.capacity, hs.record.counters, fun own => ?_⟩
      have idle := (hs.record.silent own).1
      rw [sending] at idle
      cases idle

/-! ## The events leave the link alone -/

theorem LinkLaw.of_same (hs : LinkLaw s) (link : t.link = s.link) : LinkLaw t := by rwa [LinkLaw, link]

theorem arrivalAtShut_link (f : FaderId) (s : State) : (arrivalAtShut f s).link = s.link := by
  cases f with
  | port k => simp only [arrivalAtShut]; split <;> simp
  | lane n => simp only [arrivalAtShut]; split <;> simp
  | line n => rfl

theorem linkLaw_keptByEvents : KeptByEvents LinkLaw where
  ownFields _ _ _ hs := hs
  withHcu _ _ _ hs := hs
  raise _ _ _ hs := hs
  restartNotice s hs := hs.of_same (restartNotice_link s)
  houseSample s hs := hs.of_same (houseSample_link s)
  loss k s _ hs := hs.of_same (loss_link s k)
  withReceiver _ _ _ hs := hs
  portArrival k capture body s hs := hs.of_same (portArrival_link s k capture body)
  windowComplete k s hs := hs.of_same (windowComplete_link s k)
  seedingEntry k s hs := hs.of_same (seedingEntry_link s k)
  arrivalAtShut f s hs := hs.of_same (arrivalAtShut_link f s)
  activateLane n s hs := hs.of_same (activateLane_link s n)
  completeCue i s hs := hs.of_same (completeCue_link s i)
  pinReset s _ := Link.restart_law s.link

theorem linkLaw_keptByLinkRows : KeptByLinkRows LinkLaw where
  request dest q _ hs := request_law hs dest q
  endFrame _ hs := endFrame_law hs
  framingError _ hs := linkFramingError_law hs
  linkByte b stopBit _ hs := linkByte_law hs b stopBit
  replyEnd _ hs := replyEnd_law hs
  restart s _ := Link.restart_law s.link

end

/-- Every command and the passing of time keep the laws of the link interface. -/
theorem step_keeps_linkLaw {s t : State} (hs : LinkLaw s) (ht : step s = .next t) : LinkLaw t :=
  linkLaw_keptByEvents.rows.step linkLaw_keptByLinkRows hs ht

end Sys2Proof.Machine
end

section
/-! SUPPORT. The laws of the condition unit: a detail stands only under a latch, which every raise keeps; and Clock
Lost's detail, which no event fills, because Clock Lost is raised without items (R8). -/

namespace Sys2Proof.Machine

/-! ## Details under clear latches (R154) -/

/-- A condition's detail is empty while its latch is clear. -/
def Condition.Law (c : Condition) : Prop := c.latched = false → c.detail = 0

/-- The law of every condition. -/
def DetailLaw (s : State) : Prop := ∀ i : Fin 12, s.conditions[i].Law

section
variable {s t : State}

theorem Condition.clear_law (c : Condition) : c.clear.Law := fun _ => rfl

theorem DetailLaw.of_same (hs : DetailLaw s) (same : t.conditions = s.conditions) : DetailLaw t := by
  rwa [DetailLaw, same]

theorem DetailLaw.withTaken (hs : DetailLaw s) (taken : Vector Bool 48) : DetailLaw { s with cueTaken := taken } := hs

theorem DetailLaw.withPortBank (hs : DetailLaw s) (ports : Vector Port 6) : DetailLaw { s with ports := ports } := hs

theorem DetailLaw.withLines (hs : DetailLaw s) (lines : Vector Line 64) : DetailLaw { s with lines := lines } := hs

theorem DetailLaw.raise (hs : DetailLaw s) (c : Cond) (items : BitVec 64) : DetailLaw (s.raise c items) := by
  intro i
  rw [raise_conditions]
  split
  · exact nofun
  · exact hs i

theorem DetailLaw.raiseIf (hs : DetailLaw s) (on : Bool) (c : Cond) (items : BitVec 64) :
    DetailLaw (s.raiseIf on c items) := by
  cases on with
  | false => exact hs
  | true => exact hs.raise c items

theorem evaluateLanes_detailLaw (hs : DetailLaw s) (which : Fin 48 → Bool) : DetailLaw (evaluateLanes which s) :=
  (hs.raiseIf _ .failover _).of_same (evaluateLanes_conditions which s)

theorem detailLaw_keptByPortChanges : KeptByPortChanges DetailLaw where
  withPorts ports s hs := by
    simp only [State.withPorts]
    split
    · exact evaluateLanes_detailLaw (hs.withPortBank ports) _
    · exact hs.withPortBank ports
  raise c items _ hs := hs.raise c items

/-! ### The house sample -/

theorem runWinner_detailLaw (hs : DetailLaw s) (i : Fin 32) (c : Cue) (h : Word32) : DetailLaw (runWinner i c h s) := by
  have plain (t : State) (same : t.conditions = s.conditions) := hs.of_same same
  simp only [runWinner]
  split
  · exact plain _ rfl
  split
  · exact (plain _ rfl).raise _ _
  · exact (plain _ rfl).raise _ _

theorem activateLane_detailLaw (hs : DetailLaw s) (n : Fin 48) : DetailLaw (activateLane n s) := by
  simp only [activateLane]
  split
  · exact hs
  split
  · exact hs
  split
  · exact runWinner_detailLaw (s := { s with cueTaken := s.cueTaken.set n true }) hs _ _ _
  · exact hs

theorem completeCue_detailLaw (hs : DetailLaw s) (i : Fin 32) : DetailLaw (completeCue i s) := by
  simp only [completeCue]
  split
  · split
    · exact (hs.of_same rfl : DetailLaw ((s.withRoutes _ _).withCue i _)).raise _ _
    · exact hs
  · exact hs

theorem cueStage_detailLaw (hs : DetailLaw s) : DetailLaw (cueStage s) :=
  foldl_kept (P := DetailLaw) (g := fun t n => activateLane n t) (fun _ n ht => activateLane_detailLaw ht n) _
    (foldl_kept (P := DetailLaw) (g := fun t i => rampStep i t)
      (fun t i ht => ht.of_same (rampStep_conditions t i)) _ hs)

theorem completionStage_detailLaw (hs : DetailLaw s) : DetailLaw (completionStage s) := by
  have completed := foldl_kept (P := DetailLaw) (g := fun t i => completeCue i t)
    (fun _ i ht => completeCue_detailLaw ht i) (indices 32) hs
  exact completed.withTaken _

theorem portsStage_detailLaw (hs : DetailLaw s) : DetailLaw (portsStage s).1 := by
  simp only [portsStage, State.raiseSet]
  exact (hs.withPortBank _).raiseIf _ _ _

theorem mixStage_detailLaw (hs : DetailLaw s) (outs : Vector Sample 48) : DetailLaw (mixStage outs s).1 := by
  simp only [mixStage, State.raiseSet]
  exact (hs.withLines _).raiseIf _ _ _

theorem runTest_detailLaw (hs : DetailLaw s) : DetailLaw (runTest s) := by
  have moved (op : OpState) : DetailLaw { s with op := op } := hs
  unfold runTest
  split
  · split
    · exact (moved _).raise _ _
    · exact hs
  · split
    · exact (moved _).raise _ _
    · exact hs
  · exact hs

/-- Each stage raises conditions or leaves them as they are. -/
theorem houseSample_detailLaw (hs : DetailLaw s) : DetailLaw (houseSample s) := by
  have lanes := (portsStage_detailLaw hs).of_same (lanesStage_conditions _ (portsStage s).2)
  have mixed := mixStage_detailLaw (cueStage_detailLaw lanes) (lanesStage (portsStage s).2 (portsStage s).1).2
  have ended := completionStage_detailLaw mixed
  have path : DetailLaw (signalPath s) :=
    (runTest_detailLaw (ended.of_same (lineStage_conditions _ _))).of_same (egressStage_conditions _ _)
  exact path.of_same (by simp only [houseSample])

/-! ### Every event -/

theorem arrivalAtShut_detailLaw (hs : DetailLaw s) (f : FaderId) : DetailLaw (arrivalAtShut f s) := by
  cases f with
  | port k =>
    simp only [arrivalAtShut]
    split
    · exact (detailLaw_keptByPortChanges.withPort k _ hs).raiseIf _ _ _
    · exact hs
  | lane n =>
    simp only [arrivalAtShut]
    split
    · exact hs.of_same rfl
    · exact hs
  | line n => exact hs

theorem detailLaw_keptByEvents : KeptByEvents DetailLaw where
  ownFields _ _ _ hs := hs
  withHcu _ _ _ hs := hs
  raise c items _ hs := hs.raise c items
  restartNotice _ hs := hs
  houseSample _ hs := houseSample_detailLaw hs
  loss k _ _ hs := detailLaw_keptByPortChanges.loss k hs
  withReceiver _ _ _ hs := hs
  portArrival k capture body _ hs := detailLaw_keptByPortChanges.portArrival k capture body hs
  windowComplete k _ hs := detailLaw_keptByPortChanges.windowComplete k hs
  seedingEntry k _ hs := detailLaw_keptByPortChanges.seedingEntry k hs
  arrivalAtShut f _ hs := arrivalAtShut_detailLaw hs f
  activateLane n _ hs := activateLane_detailLaw hs n
  completeCue i _ hs := completeCue_detailLaw hs i
  pinReset _ _ := reset_conditionLaw.1

end

/-! ## Clock Lost's detail, which no event changes (R8, R154) -/

/-- The detail of Clock Lost. -/
def State.lostDetail (s : State) : BitVec 64 := s.conditions[Cond.clockLost.index].detail

section
variable (s : State)

theorem lostDetail_of_keeps {s t : State} (h : KeepsCondition Cond.clockLost.index s t) :
    t.lostDetail = s.lostDetail := congrArg Condition.detail h

theorem lostDetail_of_same {s t : State} (h : t.conditions = s.conditions) : t.lostDetail = s.lostDetail := by
  simp only [State.lostDetail, h]

@[simp] theorem lostDetail_withDraws (draws : Nat) : State.lostDetail { s with draws := draws } = s.lostDetail := rfl
@[simp] theorem State.withHcu_lostDetail (h : Hcu) : (s.withHcu h).lostDetail = s.lostDetail := rfl
@[simp] theorem State.withReceiver_lostDetail (k : Fin 6) (r : Receiver) :
    (s.withReceiver k r).lostDetail = s.lostDetail := rfl
@[simp] theorem State.withLane_lostDetail (n : Fin 48) (l : Lane) : (s.withLane n l).lostDetail = s.lostDetail := rfl
@[simp] theorem restartNotice_lostDetail : (restartNotice s).lostDetail = s.lostDetail := rfl

@[simp] theorem State.raise_lostDetail {c : Cond} (hc : c ≠ .clockLost) (items : BitVec 64) :
    (s.raise c items).lostDetail = s.lostDetail := by
  refine lostDetail_of_keeps ((KeepsCondition.refl _ s).raise (fun same => hc ?_) items)
  cases c with
  | clockLost => rfl
  | _ => exact absurd same (by decide)

/-- A raise without items leaves the detail. -/
@[simp] theorem State.raise_clockLost_lostDetail : (s.raise .clockLost 0#64).lostDetail = s.lostDetail := by
  rw [State.lostDetail, Machine.raise_conditions, if_pos rfl]
  exact BitVec.or_zero

@[simp] theorem State.raiseIf_lostDetail {c : Cond} (hc : c ≠ .clockLost) (on : Bool) (items : BitVec 64) :
    (s.raiseIf on c items).lostDetail = s.lostDetail := by
  cases on with
  | false => rfl
  | true => exact State.raise_lostDetail s hc items

/-! ### The ports -/

@[simp] theorem State.withPorts_lostDetail (ports : Vector Port 6) : (s.withPorts ports).lostDetail = s.lostDetail :=
  lostDetail_of_keeps (withPorts_keepsCondition (by decide) ports s)
@[simp] theorem State.withPort_lostDetail (k : Fin 6) (p : Port) : (s.withPort k p).lostDetail = s.lostDetail :=
  State.withPorts_lostDetail s _
@[simp] theorem frameTimeout_lostDetail (k : Fin 6) : (frameTimeout k s).lostDetail = s.lostDetail := by
  simp only [frameTimeout, loss]; split <;> simp
@[simp] theorem seedingEntry_lostDetail (k : Fin 6) : (seedingEntry k s).lostDetail = s.lostDetail := by
  simp only [seedingEntry]; split <;> simp
@[simp] theorem windowComplete_lostDetail (k : Fin 6) : (windowComplete k s).lostDetail = s.lostDetail := by
  simp only [windowComplete]; repeat' split
  all_goals simp
@[simp] theorem arrivalAfterScore_lostDetail (k : Fin 6) (capture : Word32) (c : FrameClass) (samples : Frame) :
    (arrivalAfterScore k capture c samples s).lostDetail = s.lostDetail := by
  simp only [arrivalAfterScore]; split <;> simp
@[simp] theorem portArrival_lostDetail (k : Fin 6) (capture : Word32) (body : List Byte) :
    (portArrival k capture body s).lostDetail = s.lostDetail := by
  simp only [portArrival]; repeat' split
  all_goals simp
@[simp] theorem arrivalAtShut_lostDetail (f : FaderId) : (arrivalAtShut f s).lostDetail = s.lostDetail := by
  cases f with
  | port k => simp only [arrivalAtShut]; split <;> simp
  | lane n => simp only [arrivalAtShut]; split <;> simp
  | line n => rfl

/-! ### The clock -/

@[simp] theorem endSample_lostDetail : (endSample s).lostDetail = s.lostDetail := by
  have sampled := houseSample_keepsOther (i := Cond.clockLost.index) (by decide) (by decide) (by decide) (by decide)
  exact lostDetail_of_keeps ((timeoutsFirst_keepsCondition (by decide) (by decide) s).trans (sampled _))
@[simp] theorem settle_lostDetail : (settle s).lostDetail = s.lostDetail := by
  simp only [settle]; split <;> simp
@[simp] theorem qualificationComplete_lostDetail : (qualificationComplete s).lostDetail = s.lostDetail := by
  simp only [qualificationComplete]; repeat' split
  all_goals simp
@[simp] theorem referenceLoss_lostDetail (atEdge : Bool) : (referenceLoss atEdge s).lostDetail = s.lostDetail := by
  simp [referenceLoss]
@[simp] theorem referenceEdge_lostDetail (src : ClockSource) : (referenceEdge src s).lostDetail = s.lostDetail := by
  simp only [referenceEdge, followedEdge, candidateEdge]; repeat' split
  all_goals simp
@[simp] theorem watchSilence_lostDetail (src : ClockSource) : (watchSilence src s).lostDetail = s.lostDetail := by
  simp only [watchSilence]; repeat' split
  all_goals simp
@[simp] theorem arrive_lostDetail (k : Fin 6) (body : List Byte) : (arrive k body s).lostDetail = s.lostDetail := by
  simp only [arrive]; repeat' split
  all_goals simp
@[simp] theorem ingressByte_lostDetail (k : Fin 6) (b : Byte) : (ingressByte k b s).lostDetail = s.lostDetail := by
  simp only [ingressByte]; repeat' split
  all_goals simp

end

/-! ## Both laws, through the commands -/

section
variable {s t : State}

theorem ConditionLaw.detail (hs : ConditionLaw s) : DetailLaw s := hs.1

theorem ConditionLaw.lostDetail (hs : ConditionLaw s) : s.lostDetail = 0 := hs.2

/-- An operation that keeps the details empty under clear latches and leaves Clock Lost's keeps both laws. -/
theorem ConditionLaw.keep (hs : ConditionLaw s) (detail : DetailLaw t) (lost : t.lostDetail = s.lostDetail) :
    ConditionLaw t := ⟨detail, lost.trans hs.lostDetail⟩

theorem ConditionLaw.of_same (hs : ConditionLaw s) (same : t.conditions = s.conditions) : ConditionLaw t :=
  hs.keep (hs.detail.of_same same) (lostDetail_of_same same)

theorem conditionLaw_keptByEventRows : KeptByEventRows ConditionLaw where
  ownFields _ _ _ hs := hs
  tick _ _ hs := hs
  pinReset _ _ := reset_conditionLaw
  endSample s hs := hs.keep (detailLaw_keptByEvents.endSample hs.detail) (endSample_lostDetail s)
  referenceEdge src s hs :=
    hs.keep (detailLaw_keptByEvents.referenceEdge src hs.detail) (referenceEdge_lostDetail s src)
  watchSilence src s hs := hs.keep (detailLaw_keptByEvents.watchSilence src hs.detail) (watchSilence_lostDetail s src)
  qualificationComplete s hs :=
    hs.keep (detailLaw_keptByEvents.qualificationComplete hs.detail) (qualificationComplete_lostDetail s)
  ingressByte k b s hs := hs.keep (detailLaw_keptByEvents.ingressByte k b hs.detail) (ingressByte_lostDetail s k b)
  frameTimeout k s hs := hs.keep (detailLaw_keptByEvents.frameTimeout k hs.detail) (frameTimeout_lostDetail s k)
  windowComplete k s hs :=
    hs.keep (detailLaw_keptByEvents.windowComplete k s hs.detail) (windowComplete_lostDetail s k)
  seedingEntry k s hs := hs.keep (detailLaw_keptByEvents.seedingEntry k s hs.detail) (seedingEntry_lostDetail s k)
  arrivalAtShut f s hs := hs.keep (arrivalAtShut_detailLaw hs.detail f) (arrivalAtShut_lostDetail s f)
  activateLane n s hs :=
    hs.keep (activateLane_detailLaw hs.detail n) (lostDetail_of_keeps (activateLane_keepsCondition (by decide) n s))
  completeCue i s hs :=
    hs.keep (completeCue_detailLaw hs.detail i) (lostDetail_of_keeps (completeCue_keepsCondition (by decide) i s))

/-! ### The requests -/

theorem ConditionLaw.settle (hs : ConditionLaw s) : ConditionLaw (settle s) :=
  hs.keep (detailLaw_keptByEvents.settle hs.detail) (settle_lostDetail s)

theorem ConditionLaw.withPorts (hs : ConditionLaw s) (ports : Vector Port 6) : ConditionLaw (s.withPorts ports) :=
  hs.keep (detailLaw_keptByPortChanges.withPorts ports s hs.detail) (State.withPorts_lostDetail s ports)

/-- Clock Rate and Clock Source, which can end a house sample, the requests that can make a lane evaluate, the aborts
and the condition requests: no other request changes a condition. -/
def changesConditions : Request → Bool
  | .clockRate _ => true
  | .clockSource _ => true
  | .portSetup _ _ _ _ _ => true
  | .portAccept _ _ _ => true
  | .portRevive _ => true
  | .laneBind _ _ _ _ => true
  | .cueAbort _ => true
  | .cueAbortAll => true
  | .conditionTake => true
  | .conditionRelease => true
  | .conditionMask _ => true
  | .conditionClear _ => true
  | _ => false

theorem take_conditions {q : Request} (hq : changesConditions q = false) (s : State) :
    (take q s).1.conditions = s.conditions := by
  cases q with
  | clockRate | clockSource | portSetup | portAccept | portRevive | laneBind | cueAbort | cueAbortAll | conditionTake
  | conditionRelease | conditionMask | conditionClear => cases hq
  | identify | status | restart | countersClear | clockQuery | cueSurvey | conditionSurvey | unknown | malformed => rfl
  | _ =>
    simp only [take, takeGo, takeHalt, takePortQuery, takeLaneSelect, takeLaneMute, takeLaneQuery, takeRouteWrite,
      takeRouteQuery, takeCueLoad, takeCueQuery, takeLineSetup, takeLineMute, takeLineQuery]
    repeat' split
    all_goals simp

theorem takeLaneBind_conditionLaw (hs : ConditionLaw s) (lane primary alternate mode : Byte) :
    ConditionLaw (takeLaneBind lane primary alternate mode s).1 := by
  have evaluated (which : Fin 48 → Bool) (n : Fin 48) (l : Lane) :
      ConditionLaw (evaluateLanes which (s.withLane n l)) := by
    have bound : ConditionLaw (s.withLane n l) := hs
    exact bound.keep (evaluateLanes_detailLaw bound.detail which)
      (lostDetail_of_keeps (evaluateLanes_keepsCondition (by decide)))
  unfold takeLaneBind
  split
  · exact hs
  split
  · split
    · exact hs
    split
    · exact hs
    dsimp only
    exact evaluated _ _ _
  · exact hs

theorem takeCueAbort_conditionLaw (hs : ConditionLaw s) (slot : Byte) : ConditionLaw (takeCueAbort slot s).1 := by
  unfold takeCueAbort
  split
  · exact hs
  next i _ =>
    split
    next c _ =>
      have spent : ConditionLaw (s.withCue i (abortedSlot s.hcu.count c)) := hs
      exact spent.keep (spent.detail.raise _ _) (State.raise_lostDetail (c := .cueDone) _ (by decide) _)
    next => exact hs
    next => exact hs

theorem takeCueAbortAll_conditionLaw (hs : ConditionLaw s) : ConditionLaw (takeCueAbortAll s).1 :=
  hs.keep ((hs.detail.raiseIf _ _ _).of_same (takeCueAbortAll_conditions s))
    (lostDetail_of_keeps (takeCueAbortAll_keepsCondition (by decide) s))

/-- What is handed over is cleared, latch and detail together (R157). -/
theorem takeConditionTake_conditionLaw (hs : ConditionLaw s) : ConditionLaw (takeConditionTake s).1 := by
  unfold takeConditionTake
  split
  · exact hs
  next i _ =>
    have cleared (c : Condition) : Condition.Law { c.clear with inService := true } := fun _ => rfl
    refine ⟨forall_set (P := Condition.Law) hs.detail i (cleared _), ?_⟩
    rw [Fin.getElem_fin, getElem_modifyAt]
    split
    · rfl
    · exact hs.lostDetail

theorem takeConditionRelease_conditionLaw (hs : ConditionLaw s) : ConditionLaw (takeConditionRelease s).1 := by
  unfold takeConditionRelease
  split
  · exact hs
  next i _ =>
    refine ⟨forall_set (P := Condition.Law) hs.detail i (hs.detail i), ?_⟩
    rw [Fin.getElem_fin, getElem_modifyAt]
    split <;> exact hs.lostDetail

theorem takeConditionMask_conditionLaw (hs : ConditionLaw s) (set : Word16) :
    ConditionLaw (takeConditionMask set s).1 := by
  unfold takeConditionMask
  split
  · exact hs
  · refine ⟨fun i => ?_, ?_⟩
    · rw [Fin.getElem_fin, Vector.getElem_ofFn]
      exact hs.detail i
    · rw [Fin.getElem_fin, Vector.getElem_ofFn]
      exact hs.lostDetail

theorem takeConditionClear_conditionLaw (hs : ConditionLaw s) (set : Word16) :
    ConditionLaw (takeConditionClear set s).1 := by
  unfold takeConditionClear
  split
  · exact hs
  · refine ⟨fun i => ?_, ?_⟩
    · rw [Fin.getElem_fin, Vector.getElem_ofFn]
      split
      · exact Condition.clear_law _
      · exact hs.detail i
    · rw [Fin.getElem_fin, Vector.getElem_ofFn]
      split
      · rfl
      · exact hs.lostDetail

theorem takeClockRate_conditionLaw (hs : ConditionLaw s) (code : Byte) : ConditionLaw (takeClockRate code s).1 := by
  unfold takeClockRate
  split
  · exact hs
  split
  · exact hs
  next r _ =>
    split
    · exact hs
    · have changed : ConditionLaw ((s.withPorts (mapAll s.ports Port.rateChanged)).withHcu (s.hcu.changeRate r)) :=
        hs.withPorts _
      refine ConditionLaw.settle ?_
      split <;> exact changed

theorem takeClockSource_conditionLaw (hs : ConditionLaw s) (code : Byte) :
    ConditionLaw (takeClockSource code s).1 := by
  unfold takeClockSource
  split
  · exact hs
  split
  · exact hs
  split
  · dsimp only
    split
    · exact hs
    · exact ConditionLaw.settle hs
  · exact hs

theorem takePortSetup_conditionLaw (hs : ConditionLaw s) (port enable rate latency window : Byte) :
    ConditionLaw (takePortSetup port enable rate latency window s).1 := by
  refine hs.keep (detailLaw_keptByPortChanges.takePortSetup _ _ _ _ _ hs.detail) ?_
  unfold takePortSetup
  repeat' split
  all_goals simp

theorem takePortAccept_conditionLaw (hs : ConditionLaw s) (port tag mask : Byte) :
    ConditionLaw (takePortAccept port tag mask s).1 := by
  refine hs.keep (detailLaw_keptByPortChanges.takePortAccept _ _ _ hs.detail) ?_
  unfold takePortAccept
  split <;> simp

theorem takePortRevive_conditionLaw (hs : ConditionLaw s) (port : Byte) :
    ConditionLaw (takePortRevive port s).1 := by
  refine hs.keep (detailLaw_keptByPortChanges.takePortRevive _ hs.detail) ?_
  simp only [takePortRevive]
  repeat' split
  all_goals simp

theorem take_conditionLaw (hs : ConditionLaw s) (q : Request) : ConditionLaw (take q s).1 := by
  cases q with
  | clockRate code => exact takeClockRate_conditionLaw hs code
  | clockSource code => exact takeClockSource_conditionLaw hs code
  | portSetup port enable rate latency window => exact takePortSetup_conditionLaw hs port enable rate latency window
  | portAccept port tag mask => exact takePortAccept_conditionLaw hs port tag mask
  | portRevive port => exact takePortRevive_conditionLaw hs port
  | laneBind lane primary alternate mode => exact takeLaneBind_conditionLaw hs lane primary alternate mode
  | cueAbort slot => exact takeCueAbort_conditionLaw hs slot
  | cueAbortAll => exact takeCueAbortAll_conditionLaw hs
  | conditionTake => exact takeConditionTake_conditionLaw hs
  | conditionRelease => exact takeConditionRelease_conditionLaw hs
  | conditionMask set => exact takeConditionMask_conditionLaw hs set
  | conditionClear set => exact takeConditionClear_conditionLaw hs set
  | _ => exact hs.of_same (take_conditions rfl s)

theorem conditionLaw_keptByRequests : KeptByRequests ConditionLaw where
  take q _ hs := take_conditionLaw hs q
  restart _ _ := reset_conditionLaw
  withLink _ _ hs := hs
  linkFault _ _ s hs := hs.keep (hs.detail.raise .link _) (State.raise_lostDetail (c := .link) s (by decide) _)

end

/-- Every command and the passing of time keep the laws of the condition unit. -/
theorem step_keeps_conditionLaw {s t : State} (hs : ConditionLaw s) (ht : step s = .next t) : ConditionLaw t :=
  conditionLaw_keptByEventRows.step conditionLaw_keptByRequests.rows hs ht

/-- Settles O59: the condition unit and the link interface, each through the operations of the part. -/
theorem stepKeepsLinkAndConditionLaws : Obligations.StepKeepsLinkAndConditionLaws :=
  ⟨fun _ _ => step_keeps_conditionLaw, fun _ _ => step_keeps_linkLaw⟩

end Sys2Proof.Machine
end

section
/-! SUPPORT. The rank order of the condition unit: the highest-ranked condition with a property, ATTN, and the five
condition requests, each for a part that is ready to answer. -/

namespace Sys2Proof.Machine

/-! ## The highest rank (R155 to R157) -/

section
variable {v : Vector Condition 12} {p : Condition → Bool} {i : Fin 12}

theorem firstRank_eq_none : firstRank v p = none ↔ ∀ i : Fin 12, p v[i] = false := by
  simp [firstRank]

theorem firstRank_eq_some :
    firstRank v p = some i ↔ p v[i] = true ∧ ∀ j : Fin 12, j < i → p v[j] = false := by
  rw [firstRank, List.find?_eq_some_iff_getElem]
  simp only [indices, List.getElem_finRange, List.length_finRange, Bool.not_eq_true']
  refine and_congr_right fun _ => ⟨?_, fun before => ⟨i.val, i.isLt, rfl, fun j hj => before ⟨j, by omega⟩ hj⟩⟩
  rintro ⟨n, hn, rfl, before⟩ j hj
  exact before j.val hj

end

/-! ## A raise and ATTN (R154, R156) -/

section
variable {v : Vector Condition 12} {i : Fin 12}

theorem takeable_eq_none : takeable v = none ↔ ∀ i : Fin 12, v[i].latched = false ∨ v[i].enabled = false := by
  simp only [takeable, firstRank_eq_none, Bool.and_eq_false_iff]

theorem takeable_eq_some : takeable v = some i ↔ (v[i].latched = true ∧ v[i].enabled = true) ∧
    ∀ j : Fin 12, j < i → v[j].latched = false ∨ v[j].enabled = false := by
  simp only [takeable, firstRank_eq_some, Bool.and_eq_true, Bool.and_eq_false_iff]

/-- A condition that is latched and enabled has one that can be taken at its rank or above. -/
theorem exists_takeable (latched : v[i].latched = true) (enabled : v[i].enabled = true) :
    ∃ r ≤ i, takeable v = some r := by
  cases taken : takeable v with
  | none =>
    have skipped := takeable_eq_none.mp taken i
    simp only [latched, enabled, reduceCtorEq, or_self] at skipped
  | some r =>
    refine ⟨r, not_lt.mp fun before => ?_, rfl⟩
    have skipped := (takeable_eq_some.mp taken).2 i before
    simp only [latched, enabled, reduceCtorEq, or_self] at skipped

/-- The service level is the least rank in service, and to outrank it is to outrank them all (R155). -/
theorem outranks_service_iff {l : Fin 12} (level : serviceLevel v = some l) :
    i < l ↔ ∀ j : Fin 12, v[j].inService = true → i < j := by
  obtain ⟨served, before⟩ := firstRank_eq_some.mp level
  refine ⟨fun outranks j hj => outranks.trans_le (not_lt.mp fun above => ?_), fun all => all l served⟩
  rw [before j above] at hj
  cases hj

theorem attnLow_iff : attnLow v = true ↔ ∃ i : Fin 12,
    v[i].latched = true ∧ v[i].enabled = true ∧ ∀ j : Fin 12, v[j].inService = true → i < j := by
  constructor
  · unfold attnLow
    intro low
    split at low
    next => cases low
    next r taken level =>
      obtain ⟨⟨latched, enabled⟩, -⟩ := takeable_eq_some.mp taken
      refine ⟨r, latched, enabled, fun j hj => ?_⟩
      rw [firstRank_eq_none.mp level j] at hj
      cases hj
    next r l taken level =>
      obtain ⟨⟨latched, enabled⟩, -⟩ := takeable_eq_some.mp taken
      exact ⟨r, latched, enabled, (outranks_service_iff level).mp (of_decide_eq_true low)⟩
  · rintro ⟨i, latched, enabled, outranks⟩
    obtain ⟨r, above, taken⟩ := exists_takeable latched enabled
    unfold attnLow
    rw [taken]
    cases level : serviceLevel v with
    | none => rfl
    | some l => exact decide_eq_true (above.trans_lt ((outranks_service_iff level).mpr outranks))

end

/-- Settles O40: the order is the table's, a raise is its own definition, and ATTN reads the two highest ranks. -/
theorem raiseAndAttention : Obligations.RaiseAndAttention :=
  ⟨by decide, fun _ _ _ => rfl, fun _ => attnLow_iff⟩

/-! ## The condition requests (R157 to R161, R177) -/

/-- The bits of a set that name no rank (R177). -/
theorem badRankSet_eq (set : Word16) :
    badRankSet set = (set.getLsbD 0 || set.getLsbD 13 || set.getLsbD 14 || set.getLsbD 15) := by
  have outside : ∀ m < 16, (0xE001#16).getLsbD m = true ↔ m = 0 ∨ m = 13 ∨ m = 14 ∨ m = 15 := by decide
  have clear : set &&& 0xE001#16 = 0#16 ↔ set.getLsbD 0 = false ∧ set.getLsbD 13 = false ∧ set.getLsbD 14 = false ∧
      set.getLsbD 15 = false := by
    constructor
    · intro none
      have bit {m : Nat} (named : (0xE001#16).getLsbD m = true) : set.getLsbD m = false := by
        have none := congrArg (fun x : Word16 => x.getLsbD m) none
        rwa [BitVec.getLsbD_and, named, Bool.and_true, BitVec.getLsbD_zero] at none
      exact ⟨bit (by decide), bit (by decide), bit (by decide), bit (by decide)⟩
    · rintro ⟨b0, b13, b14, b15⟩
      refine BitVec.eq_of_getLsbD_eq fun m hm => ?_
      rw [BitVec.getLsbD_and, BitVec.getLsbD_zero]
      by_cases named : (0xE001#16).getLsbD m = true
      · have unset : set.getLsbD m = false := by
          rcases (outside m hm).mp named with rfl | rfl | rfl | rfl <;> assumption
        rw [unset, Bool.false_and]
      · rw [Bool.eq_false_of_not_eq_true named, Bool.and_false]
  rw [badRankSet, Bool.eq_iff_iff, bne_iff_ne]
  exact (not_congr clear).trans (by simp only [not_and_or, Bool.not_eq_false, Bool.or_eq_true, or_assoc])

section
variable {s : State} {i : Fin 12}

theorem takeConditionTake_of_none (h : takeable s.conditions = none) :
    takeConditionTake s = (s, .done [0, 0, 0, 0, 0, 0, 0, 0, 0]) := by
  simp only [takeConditionTake, h]
  rfl

theorem takeConditionTake_of_some (h : takeable s.conditions = some i) (enabled : s.conditions[i].enabled = true) :
    takeConditionTake s = ({ s with conditions := s.conditions.set i (
        { latched := false, detail := 0, enabled := true, inService := true } : Condition) },
      .done (BitVec.ofNat 8 (i.val + 1) :: beBytes 8 s.conditions[i].detail.toNat)) := by
  have handed : ({ s.conditions[i].clear with inService := true } : Condition) =
      { latched := false, detail := 0, enabled := true, inService := true } := by
    rw [← enabled]
    rfl
  rw [← handed]
  simp only [takeConditionTake, h]
  rfl

theorem takeConditionRelease_of_none (h : serviceLevel s.conditions = none) :
    takeConditionRelease s = (s, .refuse .wrongstate) := by
  simp only [takeConditionRelease, h]

theorem takeConditionRelease_of_some (h : serviceLevel s.conditions = some i) :
    takeConditionRelease s = ({ s with conditions := s.conditions.set i { s.conditions[i] with inService := false } },
      .done [BitVec.ofNat 8 (i.val + 1)]) := by
  simp only [takeConditionRelease, h]
  rfl

end

/-- Settles O41: Take and Release by the highest rank there is, Mask and Clear by their check, Survey as it stands. -/
theorem conditionRequests : Obligations.ConditionRequests := by
  refine ⟨fun dest s h => ?_, fun dest set s h => ?_⟩
  · have takes {t : State} {r : Reply} (ht : takeConditionTake s = (t, r)) :
        exec (.conditionTake dest) s = .next (t.replying 0x70 r.status r.content) :=
      exec_answers .conditionTake h rfl (by simp) ht
    have releases {t : State} {r : Reply} (ht : takeConditionRelease s = (t, r)) :
        exec (.conditionRelease dest) s = .next (t.replying 0x71 r.status r.content) :=
      exec_answers .conditionRelease h rfl (by simp) ht
    exact ⟨fun none => (takes (takeConditionTake_of_none (takeable_eq_none.mpr none)) :),
      fun i latched enabled first =>
        (takes (takeConditionTake_of_some (takeable_eq_some.mpr ⟨⟨latched, enabled⟩, first⟩) enabled) :),
      fun none => (releases (takeConditionRelease_of_none (firstRank_eq_none.mpr none)) :),
      fun i served first => (releases (takeConditionRelease_of_some (firstRank_eq_some.mpr ⟨served, first⟩)) :)⟩
  · intro outside ranks
    have bad : badRankSet set = outside := badRankSet_eq set
    have masks {t : State} {r : Reply} (ht : takeConditionMask set s = (t, r)) :
        exec (.conditionMask dest set) s = .next (t.replying 0x72 r.status r.content) :=
      exec_answers (.conditionMask set) h rfl (by simp) ht
    have clears {t : State} {r : Reply} (ht : takeConditionClear set s = (t, r)) :
        exec (.conditionClear dest set) s = .next (t.replying 0x73 r.status r.content) :=
      exec_answers (.conditionClear set) h rfl (by simp) ht
    refine ⟨?_, ?_, (exec_answers (c := .conditionSurvey dest) .conditionSurvey h rfl (by simp) rfl :)⟩
    · rw [← bad]
      by_cases refused : badRankSet set = true
      · rw [if_pos refused]
        exact (masks (if_pos refused) :)
      · rw [if_neg refused]
        exact (masks (if_neg refused) :)
    · rw [← bad]
      by_cases refused : badRankSet set = true
      · rw [if_pos refused]
        exact (clears (if_pos refused) :)
      · rw [if_neg refused]
        exact (clears (if_neg refused) :)

end Sys2Proof.Machine
end

section
/-! SUPPORT. The request queue and the transmitter: what becomes of a request that is offered, and what the end of a
reply takes from the queue. -/

namespace Sys2Proof.Machine

/-! ## Taking what waits (R168, R169) -/

section
variable {s : State} {q : QueuedRequest} {rest : List QueuedRequest} {fuel : Nat}

/-- While a reply is being sent, no waiting request is taken. -/
theorem takeWaiting_of_sending (sending : s.link.tx ≠ none) : takeWaiting fuel s = s := by
  cases fuel with
  | zero => rfl
  | succ fuel =>
    unfold takeWaiting
    split
    next idle _ => exact absurd idle sending
    next => rfl

theorem takeWaiting_of_empty (empty : s.link.queue = []) : takeWaiting fuel s = s := by
  cases fuel with
  | zero => rfl
  | succ fuel =>
    unfold takeWaiting
    split
    next waiting => rw [empty] at waiting; cases waiting
    next => rfl

/-- An idle transmitter takes the head request first. -/
theorem takeReady_cons (idle : s.link.tx = none) (waiting : s.link.queue = q :: rest) :
    s.takeReady = takeWaiting rest.length (serve q (s.withLink { s.link with queue := rest })) := by
  simp only [State.takeReady, waiting, List.length_cons, takeWaiting, idle]

end

section
variable (q : Request) (s : State)

theorem isRestart_eq : isRestart q = (q == .restart) := by
  by_cases hq : q = .restart
  · rw [hq]
    rfl
  · rw [isRestart_eq_false hq, beq_false_of_ne hq]

/-- A request by itself does not start or stop a reply (R169). -/
theorem take_tx : (take q s).1.link.tx = s.link.tx := by
  by_cases hq : q = .countersClear
  · rw [hq]
    rfl
  · rw [take_link hq]

/-- An addressed request that is taken is answered (R169). -/
theorem serve_addressed : serve ⟨false, q⟩ s =
    (take q s).1.send (transmission (take q s).1.link.address q (take q s).2) := rfl

/-- A broadcast Restart executes at once (R152). -/
theorem serve_broadcast_restart : serve ⟨true, .restart⟩ s = executeRestart s := rfl

end

/-- A broadcast other than Restart has its effect and no reply (R169). -/
theorem serve_broadcast {q : Request} (hq : q ≠ .restart) (s : State) : serve ⟨true, q⟩ s = (take q s).1 := by
  simp only [serve, if_true, isRestart_eq_false hq, Bool.false_eq_true, if_false]

/-! ## A request is offered (R165, R168, R169) -/

section
variable {s : State} {dest : Address} {q : Request}

theorem request_of_own (own : dest = s.link.address ∨ dest = 15) :
    request dest q s = offer ⟨decide (dest = 15), q⟩ s := by
  unfold request broadcastAddress
  by_cases all : dest = 15
  · rw [if_pos all, decide_eq_true all]
  · rw [if_neg all, if_pos (own.resolve_right all), decide_eq_false all]

theorem offer_of_sending {q : QueuedRequest} (sending : s.link.tx ≠ none) (room : s.link.queue.length < 4) :
    offer q s = s.withLink { s.link with queue := s.link.queue ++ [q] } :=
  (if_pos room).trans (takeReady_of_busy sending)

theorem offer_of_full {q : QueuedRequest} (full : 4 ≤ s.link.queue.length) :
    offer q s = s.linkFault { s.link with overflows := countUp max16 s.link.overflows } markOverflow :=
  if_neg (not_lt.mpr full)

/-- At an idle part with nothing waiting a broadcast is taken at once. -/
theorem offer_broadcast_of_idle (idle : s.link.tx = none) (empty : s.link.queue = []) (hq : q ≠ .restart) :
    offer ⟨true, q⟩ s = (take q s).1 := by
  have waiting : (s.withLink { s.link with queue := s.link.queue ++ [⟨true, q⟩] }).link.queue = [⟨true, q⟩] := by
    rw [State.withLink_link, empty, List.nil_append]
  rw [offer, if_pos (by rw [empty]; exact Nat.succ_pos 3), takeReady_cons (by exact idle) waiting]
  exact (serve_broadcast hq _).trans (congrArg (fun t => (take q t).1) (State.withLink_queue_nil empty))

end

/-! ## A reply ends (R169) -/

section
variable {s : State} {w : List Byte} {q : Request} {rest : List QueuedRequest}

theorem replyEnd_of_idle (idle : s.link.tx = none) : replyEnd s = s := by
  simp only [replyEnd, idle]

theorem replyEnd_of_sending (sending : s.link.tx = some ⟨w, false⟩) :
    replyEnd s = (s.withLink { s.link with tx := none }).takeReady := by
  simp only [replyEnd, sending, Bool.false_eq_true, if_false]

theorem replyEnd_of_empty (sending : s.link.tx = some ⟨w, false⟩) (empty : s.link.queue = []) :
    replyEnd s = s.withLink { s.link with tx := none } := by
  rw [replyEnd_of_sending sending]
  exact takeWaiting_of_empty empty

/-- With the transmitter idle, the head request is served before the others. -/
theorem replyEnd_cons {q : QueuedRequest} (sending : s.link.tx = some ⟨w, false⟩) (waiting : s.link.queue = q :: rest) :
    replyEnd s = takeWaiting rest.length (serve q (s.withLink { s.link with tx := none, queue := rest })) := by
  rw [replyEnd_of_sending sending]
  exact takeReady_cons rfl waiting

theorem replyEnd_addressed (sending : s.link.tx = some ⟨w, false⟩) (waiting : s.link.queue = ⟨false, q⟩ :: rest) :
    let answered := take q (s.withLink { s.link with tx := none, queue := rest })
    replyEnd s = answered.1.send (transmission s.link.address q answered.2) := by
  intro answered
  have address : answered.1.link.address = s.link.address := (take_queue_address q _).2
  rw [replyEnd_cons sending waiting, serve_addressed, address]
  exact takeWaiting_of_sending (Option.some_ne_none _)

/-- Behind a broadcast the next request is taken as at a reply's end. -/
theorem replyEnd_broadcast (sending : s.link.tx = some ⟨w, false⟩) (waiting : s.link.queue = ⟨true, q⟩ :: rest)
    (hq : q ≠ .restart) :
    let t := (take q (s.withLink { s.link with tx := none, queue := rest })).1
    t.link.tx = none ∧ t.link.queue = rest ∧
      replyEnd s = replyEnd (t.withLink { t.link with tx := some ⟨w, false⟩ }) := by
  intro t
  have idle : t.link.tx = none := take_tx q _
  have queue : t.link.queue = rest := (take_queue_address q _).1
  have same : (t.withLink { t.link with tx := some ⟨w, false⟩ }).withLink { t.link with tx := none } = t := by
    rw [← idle]
    rfl
  have ready : t.takeReady = takeWaiting rest.length t := by rw [State.takeReady, queue]
  refine ⟨idle, queue, ?_⟩
  rw [replyEnd_cons sending waiting, serve_broadcast hq, replyEnd_of_sending rfl]
  exact ready.symm.trans (congrArg State.takeReady same).symm

theorem replyEnd_broadcast_restart (sending : s.link.tx = some ⟨w, false⟩)
    (waiting : s.link.queue = ⟨true, .restart⟩ :: rest) :
    replyEnd s = request 15 .restart (s.withLink { s.link with tx := none, queue := [] }) := by
  rw [replyEnd_cons sending waiting, serve_broadcast_restart, takeWaiting_of_empty rfl,
    request_broadcast_restart rfl rfl]
  exact (executeRestart_withLink rfl).trans (executeRestart_withLink rfl).symm

end

/-- Settles O45: a row at the queue by destination, transmitter and room; a reply's end by the head of the queue. -/
theorem requestQueue : Obligations.RequestQueue := by
  refine ⟨fun c dest q s hc => ?_,
    fun s => ⟨fun idle => congrArg _ (replyEnd_of_idle idle), fun w sending => ⟨?_, ?_, ?_⟩⟩⟩
  · rw [exec_requested hc]
    refine ⟨?_, ?_, ?_, ?_, ?_, ?_⟩
    · exact fun other all => congrArg _ (request_other other all q)
    · exact fun own busy room => congrArg _ ((request_of_own own).trans (offer_of_sending busy room))
    · exact fun own full => congrArg _ ((request_of_own own).trans (offer_of_full full))
    · rintro rfl idle empty hq
      exact ⟨congrArg _ ((request_of_own (.inr rfl)).trans (offer_broadcast_of_idle idle empty hq)),
        (take_tx q s).trans idle⟩
    · exact fun ready hq => congrArg _ (request_replying ready hq)
    · exact fun own => congrArg _ (request_of_own own)
  · exact fun empty => congrArg _ (replyEnd_of_empty sending empty)
  · intro q rest waiting answered
    rw [← isRestart_eq]
    exact congrArg _ (replyEnd_addressed sending waiting)
  · intro q rest waiting left
    refine ⟨fun hq => ?_, ?_⟩
    · obtain ⟨idle, queue, next⟩ := replyEnd_broadcast sending waiting hq
      exact ⟨idle, queue, congrArg Host.Outcome.next next⟩
    · rintro rfl
      exact congrArg _ (replyEnd_broadcast_restart sending waiting)

/-! ## Identify, Status and Counters Clear (R172 to R174) -/

/-- Settles O42: the replies by their fields, the queued Status through the end of the reply before it. -/
theorem linkRequests : Obligations.LinkRequests := by
  unfold Obligations.LinkRequests
  intro report
  have reported (s : State) : takeStatus s = (s, .done (report s (byte s.link.queue.length))) := by
    simp only [takeStatus, candidateCode_eq]
    rfl
  refine ⟨⟨rfl, rfl, ⟨rfl, rfl, fun _ => rfl⟩, rfl⟩, fun dest s h => ⟨?_, ?_, ?_⟩, fun s w rest sending waiting => ?_⟩
  · exact (exec_answers (c := .identify dest) .identify h rfl nofun rfl :)
  · have ⟨_, _, _, empty⟩ := h
    have alone := reported s
    rw [empty] at alone
    exact (exec_answers (c := .status dest) .status h rfl nofun alone :)
  · exact (exec_answers (c := .countersClear dest) .countersClear h rfl nofun rfl :)
  · refine congrArg _ ((replyEnd_addressed sending waiting).trans ?_)
    have waited := reported (s.withLink { s.link with tx := none, queue := rest })
    simp only [take, waited]
    rfl

end Sys2Proof.Machine
end

section
/-! SUPPORT. The link's receiver: what one byte does in each of its states, and how a frame is judged at its closing
delimiter. -/

namespace Sys2Proof.Machine

/-! ## A byte at the receiver (R164, R166) -/

section
variable {s : State} {b : Byte} {stop : Bool}

theorem linkByte_of_idle (idle : s.link.rx = .idle) :
    linkByte b stop s = if stop = true ∧ b = 0xF5 then openFrame s else s := by
  simp only [linkByte, idle]
  rfl

theorem linkByte_of_collecting (collects : s.link.rx = .collecting) : linkByte b stop s =
    if stop = false then linkFramingError s
    else if b = 0xF5 then endFrame s
    else if b = 0xF6 then s.withLink { s.link with rx := .escaped }
    else appendByte b s := by
  simp only [linkByte, collects]
  cases stop <;> rfl

theorem linkByte_of_escaped (escaped : s.link.rx = .escaped) : linkByte b stop s =
    if stop = false then linkFramingError s
    else if b = 0xFD then appendByte 0xF5 s
    else if b = 0xFE then appendByte 0xF6 s
    else if b = 0xF5 then openFrame s
    else linkFramingError s := by
  simp only [linkByte, escaped]
  cases stop <;> rfl

/-- The buffer holds at most 245 bytes. -/
theorem appendByte_eq : appendByte b s = if s.link.buffer.length + 1 < 246 then
      s.withLink { s.link with rx := .collecting, buffer := s.link.buffer ++ [b] }
    else linkFramingError s := by
  rw [appendByte]
  by_cases full : 245 ≤ s.link.buffer.length
  · rw [if_pos full, if_neg (by omega)]
  · rw [if_neg full, if_pos (by omega)]

end

theorem exec_requestPairByte (b : Byte) (stop : Bool) (s : State) :
    exec (.requestPairByte b stop) s = .next (linkByte b stop s) := rfl

theorem exec_controlFrameEnd_of_collecting {s : State} (collects : s.link.rx = .collecting) :
    exec .controlFrameEnd s = .next (endFrame s) :=
  congrArg _ (if_pos collects)

/-- The 0xF6 of an ABORT is discarded, escapes, or is a framing error, and the 0xF5 then opens a frame. -/
theorem exec_abort_eq (s : State) : exec .abort s = match s.link.rx with
    | .idle => .next (openFrame s)
    | .collecting => .next (openFrame s)
    | .escaped => .next (openFrame (linkFramingError s)) := by
  have abort : exec .abort s = .next (linkByte 0xF5 true (linkByte 0xF6 true s)) := rfl
  rw [abort]
  cases rx : s.link.rx with
  | idle =>
    have discarded : linkByte 0xF6 true s = s := linkByte_of_idle rx
    rw [discarded, linkByte_of_idle rx]
    rfl
  | collecting =>
    have escaped : linkByte 0xF6 true s = s.withLink { s.link with rx := .escaped } := linkByte_of_collecting rx
    rw [escaped, linkByte_of_escaped rfl]
    rfl
  | escaped =>
    have faulted : linkByte 0xF6 true s = linkFramingError s := linkByte_of_escaped rx
    rw [faulted, linkByte_of_idle rfl]
    rfl

/-- Settles O43: the receiver by its state and the byte; ABORT as two such bytes. -/
theorem receiverBytes : Obligations.ReceiverBytes := by
  intro b stop s l with' faulted appended
  have append (d : Byte) : Host.Outcome.next (appendByte d s) = appended d := by
    rw [appendByte_eq, apply_ite Host.Outcome.next]
    rfl
  refine ⟨?_, ⟨_, rfl, rfl⟩, exec_abort_eq s, apply_ite Host.Outcome.next ..⟩
  rw [exec_requestPairByte]
  cases rx : l.rx with
  | idle =>
    rw [linkByte_of_idle rx, apply_ite Host.Outcome.next]
    rfl
  | collecting =>
    rw [linkByte_of_collecting rx, exec_controlFrameEnd_of_collecting rx, ← append b]
    simp only [apply_ite Host.Outcome.next]
    rfl
  | escaped =>
    rw [linkByte_of_escaped rx, ← append 0xF5, ← append 0xF6]
    simp only [apply_ite Host.Outcome.next]
    rfl

/-! ## A frame is judged (R165) -/

section
variable {s : State}

theorem openFrame_of_collecting (collects : s.link.rx = .collecting) :
    openFrame s = { s with link := { s.link with buffer := [] } } := by
  simp only [openFrame, State.withLink, collects]

theorem judge_of_short {bytes : List Byte} (short : bytes.length < 5) : judge bytes s = s := if_pos short

/-- The last two bytes of a frame are its check; the destination and the request are read only from a request frame
whose check agrees. -/
theorem judge_frame {address kind length : Byte} {payload check : List Byte} (two : check.length = 2) :
    judge (address :: kind :: length :: payload ++ check) s =
      if check ≠ beBytes 2 (crc16 (address :: kind :: length :: payload)).toNat then
        s.linkFault { s.link with badChecks := countUp max16 s.link.badChecks } markBadCheck
      else if address.getLsbD 7 = true then s
      else request (address.setWidth 4) (readRequest kind length payload) s := by
  have msb : address.msb = address.getLsbD 7 := BitVec.msb_eq_getLsbD_last address
  generalize hframe : address :: kind :: length :: payload = frame
  have long : 3 ≤ frame.length := by simp [← hframe]
  have total : (frame ++ check).length - 2 = frame.length := by rw [List.length_append, two, Nat.add_sub_cancel]
  have enough : ¬(frame ++ check).length < 5 := by rw [List.length_append, two]; omega
  simp only [judge, if_neg enough, total, List.take_left, List.drop_left]
  rw [← hframe]
  simp only [msb]

/-- A request is offered to the queue of a part that it is for (R163, R165). -/
theorem request_eq (dest : Address) (q : Request) : request dest q s =
    if dest ≠ s.link.address ∧ dest ≠ 15 then s else offer ⟨decide (dest = 15), q⟩ s := by
  by_cases other : dest ≠ s.link.address ∧ dest ≠ 15
  · rw [if_pos other, request_other other.1 other.2]
  · rw [if_neg other, request_of_own (by tauto)]

end

/-- Settles O44: the delimiter opens the next frame, and the frame before it is judged by its length, check and
destination. -/
theorem frameJudged : Obligations.FrameJudged := by
  refine fun s => ⟨fun other => congrArg _ (if_neg other), fun collects => ?_⟩
  intro next
  have ended : exec .controlFrameEnd s = .next (judge s.link.buffer next) := by
    rw [exec_controlFrameEnd_of_collecting collects, endFrame, openFrame_of_collecting collects]
  rw [ended]
  refine ⟨fun short => congrArg _ (judge_of_short short), fun address kind length payload check buffer two => ?_⟩
  intro dest
  rw [buffer, judge_frame two, request_eq, ite_or]
  rfl

end Sys2Proof.Machine
end

section
/-! SUPPORT. Frames on the wire: the bytes of a field, the check, a reply's bytes, and the receiver that reads back what
the transmitter's stuffing sends. -/

namespace Sys2Proof.Machine

/-! ## Fields and the check (R167, section 6.5) -/

theorem getElem?_beBytes {n i : Nat} (hi : i < n) (v : Nat) :
    (beBytes n v)[i]? = some (BitVec.ofNat 8 (v / 256 ^ (n - 1 - i))) := by
  induction n generalizing i with
  | zero => exact absurd hi (Nat.not_lt_zero i)
  | succ n ih =>
    cases i with
    | zero => rfl
    | succ i =>
      have place : n + 1 - 1 - (i + 1) = n - 1 - i := by omega
      rw [beBytes, List.getElem?_cons_succ, ih (Nat.lt_of_succ_lt_succ hi), place]

theorem crc16Bits_eq (n : Nat) (r : BitVec 16) : crc16Bits n r = crc16Bit^[n] r := by
  induction n generalizing r with
  | zero => rfl
  | succ n ih => exact ih _

theorem crc16_append (bytes : List Byte) (b : Byte) :
    crc16 (bytes ++ [b]) = crc16Bit^[8] (crc16 bytes ^^^ (b ++ 0#8 : BitVec 16)) := by
  rw [crc16, List.foldl_append, List.foldl_cons, List.foldl_nil, crc16Bits_eq]
  rfl

theorem withCheck_eq (bytes : List Byte) : withCheck bytes =
    bytes ++ [BitVec.ofNat 8 ((crc16 bytes).toNat / 256), BitVec.ofNat 8 ((crc16 bytes).toNat % 256)] := by
  have low : BitVec.ofNat 8 (crc16 bytes).toNat = BitVec.ofNat 8 ((crc16 bytes).toNat % 256) :=
    BitVec.eq_of_toNat_eq (Nat.mod_mod _ _).symm
  simp only [withCheck, beBytes, pow_one, pow_zero, Nat.div_one, low]

/-- The address byte of a reply has bit 7 set (R169). -/
theorem replyAddress_eq (address : Address) :
    0x80#8 ||| address.zeroExtend 8 = 0x80#8 + BitVec.ofNat 8 address.toNat := by
  revert address
  decide

/-! ## Stuffing (R164) -/

theorem stuffByte_eq (b : Byte) :
    stuffByte b = if b = 0xF5 then [0xF6, 0xFD] else if b = 0xF6 then [0xF6, 0xFE] else [b] := rfl

theorem delimiter_not_mem_stuffByte (b : Byte) : 0xF5#8 ∉ stuffByte b := by
  rw [stuffByte_eq]
  split
  · decide
  split
  · decide
  next other _ => exact fun mem => other (List.mem_singleton.mp mem).symm

theorem length_stuffByte (b : Byte) : (stuffByte b).length = 1 + if b = 0xF5 || b = 0xF6 then 1 else 0 := by
  by_cases isDelimiter : b = 0xF5
  · rw [isDelimiter]
    rfl
  by_cases isEscape : b = 0xF6
  · rw [isEscape]
    rfl
  · rw [stuffByte_eq, if_neg isDelimiter, if_neg isEscape, decide_eq_false isDelimiter, decide_eq_false isEscape]
    rfl

/-- Each delimiter and each escape inside a frame takes one byte more, and the frame two delimiters. -/
theorem length_wireOf (frame : List Byte) :
    (wireOf frame).length = frame.length + frame.countP (fun b => b = 0xF5 || b = 0xF6) + 2 := by
  have stuffed : (frame.flatMap stuffByte).length = frame.length + frame.countP (fun b => b = 0xF5 || b = 0xF6) := by
    induction frame with
    | nil => rfl
    | cons b frame ih =>
      rw [List.flatMap_cons, List.length_append, ih, length_stuffByte, List.length_cons, List.countP_cons]
      omega
  rw [wireOf, List.length_cons, List.length_append, stuffed]
  rfl

/-! ## Reading back (R164, R165) -/

/-- The receiver reads whole bytes, one after another. -/
def readBytes (bytes : List Byte) (s : State) : State := bytes.foldl (fun t b => linkByte b true t) s

/-- The part collects a frame and has these unstuffed bytes of it. -/
def State.collecting (buffer : List Byte) (s : State) : State :=
  s.withLink { s.link with rx := .collecting, buffer := buffer }

section
variable {s : State}

theorem readBytes_append (l r : List Byte) : readBytes (l ++ r) s = readBytes r (readBytes l s) := List.foldl_append

/-- The stuffed form of a byte is read as that byte. -/
theorem readBytes_stuffByte {buffer : List Byte} (b : Byte) (room : buffer.length < 245) :
    readBytes (stuffByte b) (s.collecting buffer) = s.collecting (buffer ++ [b]) := by
  have append {t : State} (d : Byte) (ht : t.link.buffer = buffer) : appendByte d t =
      t.withLink { t.link with rx := .collecting, buffer := buffer ++ [d] } := by
    rw [appendByte_eq, ht, if_pos (Nat.succ_lt_succ room)]
  have escaped : linkByte 0xF6 true (s.collecting buffer) =
      s.withLink { s.link with rx := .escaped, buffer := buffer } := linkByte_of_collecting rfl
  rw [stuffByte_eq]
  split
  next isDelimiter =>
    rw [isDelimiter]
    change linkByte 0xFD true (linkByte 0xF6 true (s.collecting buffer)) = _
    rw [escaped, linkByte_of_escaped rfl]
    exact append 0xF5 rfl
  split
  next isEscape =>
    rw [isEscape]
    change linkByte 0xFE true (linkByte 0xF6 true (s.collecting buffer)) = _
    rw [escaped, linkByte_of_escaped rfl]
    exact append 0xF6 rfl
  next notDelimiter notEscape =>
    change linkByte b true (s.collecting buffer) = _
    rw [linkByte_of_collecting rfl, if_neg (by decide), if_neg notDelimiter, if_neg notEscape]
    exact append b rfl

theorem readBytes_stuffed {buffer frame : List Byte} (room : buffer.length + frame.length ≤ 245) :
    readBytes (frame.flatMap stuffByte) (s.collecting buffer) = s.collecting (buffer ++ frame) := by
  induction frame generalizing buffer with
  | nil => rw [List.append_nil]; rfl
  | cons b frame ih =>
    rw [List.length_cons] at room
    rw [List.flatMap_cons, readBytes_append, readBytes_stuffByte b (by omega), ih, List.append_assoc]
    · rfl
    · rw [List.length_append, List.length_singleton]
      omega

/-- A frame on the wire, read from its opening delimiter on, ends as that frame in the buffer ends. -/
theorem readBytes_wireOf {frame : List Byte} (idle : s.link.rx = .idle) (fits : frame.length ≤ 245) :
    readBytes (wireOf frame) s = endFrame (s.collecting frame) := by
  have opened : linkByte 0xF5 true s = s.collecting [] := linkByte_of_idle idle
  have inside : readBytes (frame.flatMap stuffByte) (s.collecting []) = s.collecting frame :=
    readBytes_stuffed (by simpa using fits)
  change readBytes (frame.flatMap stuffByte ++ [0xF5]) (linkByte 0xF5 true s) = _
  rw [opened, readBytes_append, inside]
  change linkByte 0xF5 true (s.collecting frame) = _
  exact linkByte_of_collecting rfl

/-- The rows REQUEST_PAIR_BYTE, one after another, as one reading. -/
theorem foldl_exec_requestPairByte (bytes : List Byte) :
    bytes.foldl (fun (o : Answer) b => match o with
        | .next t => exec (.requestPairByte b true) t
        | .fault f => .fault f
        | .refused r => .refused r) (.next s) = .next (readBytes bytes s) := by
  induction bytes generalizing s with
  | nil => rfl
  | cons b bytes ih => exact ih

end

/-- Settles O47: codes and check bit by bit; a reply's length byte by byte; the frame read back through the stuffing of
each of its bytes. -/
theorem wireRoundTrip : Obligations.WireRoundTrip := by
  refine ⟨⟨rfl, fun n v => ⟨length_beBytes n v, fun i hi => getElem?_beBytes hi v⟩, rfl, crc16_append⟩,
    fun address kind r => ⟨?_, fun restart => ?_⟩, fun frame s idle fits => ⟨⟨rfl, ?_⟩, ?_⟩⟩
  · rw [Reply.frame, replyAddress_eq, Nat.add_comm]
    exact withCheck_eq _
  · exact congrArg (5 * ·) (length_wireOf _)
  · intro inside
    obtain ⟨b, -, mem⟩ := List.mem_flatMap.mp inside
    exact delimiter_not_mem_stuffByte b mem
  · have ended : exec .controlFrameEnd (s.collecting frame) = .next (endFrame (s.collecting frame)) :=
      exec_controlFrameEnd_of_collecting rfl
    rw [← readBytes_wireOf idle fits] at ended
    exact (foldl_exec_requestPairByte _).trans ended.symm

end Sys2Proof.Machine
end

section
/-! SUPPORT. The front of the queue, and the answer of every command: a row that is a request is one operation of the
link, and each other row is one operation of its block. -/

namespace Sys2Proof.Machine

/-- With a command at the queue's front, no time passes: the command is run with the queue's rest. -/
theorem step_of_pending {c : Instr} {rest : List Instr} {s : State} (front : s.pending = c :: rest) :
    step s = exec c { s with pending := rest } := by
  rw [step, front]

/-- Settles O1: a command put in front leaves the queue as it was for the run. -/
theorem stepRunsFront : Obligations.StepRunsFront :=
  fun _ _ => ⟨step_of_pending rfl, fun _ front => step_of_pending front⟩

/-- Settles O50: the requests by what the link hands on, and the other rows by the operation of each, which gives a
state whether or not the row's cause is there. -/
theorem everyCommandAnswers : Obligations.EveryCommandAnswers := by
  intro c s
  cases hq : requested? c with
  | some q => exact ⟨request q.1 q.2 s, exec_requested hq s⟩
  | none =>
    cases c with
    | pinReset | restartExecute => exact ⟨_, rfl⟩
    | houseSample | wordclockEdge | watchSilence | qualificationComplete => exact ⟨_, rfl⟩
    | frameArrival | syncWord | frameTimeout | windowComplete | seedingEntry => exact ⟨_, rfl⟩
    | arrivalAtShut | arrivalAtOpen | cueActivation | cueCompletion => exact ⟨_, rfl⟩
    | controlFrameEnd | framingError | abort | requestPairByte | replyEnd => exact ⟨_, rfl⟩
    | _ => cases hq

end Sys2Proof.Machine
end
